-- ==== Sys2Proof/Word.lean ====
section
/-! DEFINITION. The word types of the block: every register and port value is unsigned, bit 0 is the
least significant bit (spec 00_scope R10, R14). -/

namespace Sys2Proof

/-- One byte: an address, a command, or one of their inverses (ADDR_W, CMD_W of R10). -/
abbrev Byte := BitVec 8

/-- The control vector `ctl[4:0]` = R T F V L (30_encoding R74). -/
abbrev Ctl := BitVec 5

/-- A timestamp or an interval in microseconds (TS_W of R10). -/
abbrev Micros := BitVec 64

/-- The shift register's word (SR_W of R10). -/
abbrev FrameWord := BitVec 32

end Sys2Proof
end

