-- ==== Sys2Proof/Syntax.lean ====
section
/-! DEFINITION. The operations of the block, one constructor per row of spec/opcode_table.json
(30_encoding R73, R75). -/

namespace Sys2Proof

/-- The six operations of R73; an EDGE carries its operand `edge_ts` (R77). -/
inductive Instr where
  /-- RESET, `1----` (45_control R221). -/
  | reset
  /-- TAKE, `01---` (44_consumer_read R200). -/
  | take
  /-- TIMEOUT, `0-1--` (43_deadline_guard R181). -/
  | timeout
  /-- EDGE_HIGH, `0--11`, with its timestamp (40_edge_fsm R101). -/
  | edgeHigh (ts : Micros)
  /-- EDGE_LOW, `0--10`, with its timestamp (40_edge_fsm R101). -/
  | edgeLow (ts : Micros)
  /-- NOP, `0000-` (45_control R220). -/
  | nop
deriving DecidableEq, Repr

/-- Whether an operation is one of the two EDGEs. -/
def Instr.isEdge : Instr → Bool
  | .reset => false
  | .take => false
  | .timeout => false
  | .edgeHigh _ => true
  | .edgeLow _ => true
  | .nop => false

/-- The place of an operation in the order of a cycle: TAKE, then TIMEOUT, then EDGE (45_control R222);
RESET and NOP stand alone in their cycle. -/
def Instr.phase : Instr → Nat
  | .reset => 0
  | .take => 1
  | .timeout => 2
  | .edgeHigh _ => 3
  | .edgeLow _ => 3
  | .nop => 0

end Sys2Proof
end

