-- ==== Sys2Proof/Machine/Ports.lean ====
section
/-! DEFINITION. The ports of the block (30_encoding R71), the control vector they form (R74) and the
diagnostic codes (60_exceptions R241). -/

namespace Sys2Proof.Machine

open Sys2Proof

/-- The input ports sampled in one cycle (R71, all of them but the clock: a step of the model IS a clock cycle). -/
structure Inputs where
  /-- `rst`: RESET. -/
  rst : Bool
  /-- `take_req`: the consumer asks for the result. -/
  takeReq : Bool
  /-- `timer_fire`: the outstanding deadline has expired. -/
  timerFire : Bool
  /-- `edge_valid`: an edge is presented. -/
  edgeValid : Bool
  /-- `edge_level`: the level after the transition, 1 = HIGH. -/
  edgeLevel : Bool
  /-- `edge_ts[63:0]`: the edge's timestamp in microseconds. -/
  edgeTs : Micros
deriving DecidableEq, Repr, Inhabited

/-- Five bits as a control vector: `RTFVL` (R74). -/
def ctlOfBits (r t f v l : Bool) : Ctl :=
  BitVec.ofBool r ++ BitVec.ofBool t ++ BitVec.ofBool f ++ BitVec.ofBool v ++ BitVec.ofBool l

/-- The control vector of the five 1-bit inputs, R in bit 4 down to L in bit 0 (R74). -/
def Inputs.ctl (i : Inputs) : Ctl :=
  ctlOfBits i.rst i.takeReq i.timerFire i.edgeValid i.edgeLevel

/-- The input ports that show a given control vector and timestamp (R74). -/
def Inputs.ofCtl (ctl : Ctl) (ts : Micros) : Inputs :=
  { rst := ctl.getLsbD 4, takeReq := ctl.getLsbD 3, timerFire := ctl.getLsbD 2,
    edgeValid := ctl.getLsbD 1, edgeLevel := ctl.getLsbD 0, edgeTs := ts }

/-- No strobe at all: the inputs of a NOP cycle (R75). -/
def Inputs.quiet : Inputs :=
  { rst := false, takeReq := false, timerFire := false, edgeValid := false, edgeLevel := false, edgeTs := 0 }

/-- The bitwise OR of two cycles' inputs (30_encoding R80: a group is the bitwise OR of its members). -/
def Inputs.or (i j : Inputs) : Inputs :=
  { rst := i.rst || j.rst, takeReq := i.takeReq || j.takeReq, timerFire := i.timerFire || j.timerFire,
    edgeValid := i.edgeValid || j.edgeValid, edgeLevel := i.edgeLevel || j.edgeLevel,
    edgeTs := i.edgeTs ||| j.edgeTs }

/-- The output ports of one cycle (R71). -/
structure Outputs where
  /-- `take_valid`: a TAKE of this cycle found a frame. -/
  takeValid : Bool
  /-- `take_address`. -/
  takeAddress : Byte
  /-- `take_command`. -/
  takeCommand : Byte
  /-- `take_repeated`. -/
  takeRepeated : Bool
  /-- `timer_arm`: request a one-shot deadline. -/
  timerArm : Bool
  /-- `timer_delay_ms[31:0]`: always DEADLINE_MS. -/
  timerDelayMs : BitVec 32
  /-- `timer_cancel`: cancel the outstanding deadline. -/
  timerCancel : Bool
  /-- `indicator`: the register at the start of the cycle (R72). -/
  indicator : Bool
  /-- `frame_pending`: `hasUnreadFrame` at the start of the cycle (R72). -/
  framePending : Bool
  /-- `diag_valid`: an error was detected this cycle. -/
  diagValid : Bool
  /-- `diag_code[2:0]`, 0 when `diag_valid = 0`. -/
  diagCode : BitVec 3
  /-- `diag_delta[63:0]`, 0 when `diag_valid = 0`. -/
  diagDelta : Micros
deriving DecidableEq, Repr

/-- The five recoverable errors of 60_exceptions R240, R241. -/
inductive Diag where
  /-- Unexpected edge polarity while awaiting start. -/
  | invalidStartLevel
  /-- Start pulse width out of tolerance. -/
  | invalidStartTiming
  /-- A bit pulse matches neither symbol window. -/
  | invalidBitTiming
  /-- Inverse-byte validation fails on a complete frame. -/
  | checksumMismatch
  /-- The WaitForStart deadline elapses. -/
  | startTimeout
deriving DecidableEq, Repr

/-- `diag_code` of each error (R241); 0, 6 and 7 name no error. -/
def Diag.code : Diag → BitVec 3
  | .invalidStartLevel => 1
  | .invalidStartTiming => 2
  | .invalidBitTiming => 3
  | .checksumMismatch => 4
  | .startTimeout => 5

end Sys2Proof.Machine
end

