-- ==== Sys2Proof/Config.lean ====
section
/-! DEFINITION. What is fixed when the block is built (00_scope R11, R12) and what the environment leaves
free: the input ports of a cycle that nothing has placed (60_exceptions R256, log entry 2). -/

namespace Sys2Proof

/-- The build-time parameters of R11 and R12 (log entries 1 and 9). Windows are exact naturals, compared over
the integers (42_timing_windows R161); the deadline delay has DELAY_W = 32 bits (R10). -/
structure Params where
  /-- START_MARK_US: start burst length, checked in WaitForStart. -/
  startMarkUs : Nat
  /-- START_SPACE_US: full-frame space after the start burst. -/
  startSpaceUs : Nat
  /-- REPEAT_SPACE_US: repeat-code space after the start burst. -/
  repeatSpaceUs : Nat
  /-- LONG_TOL_US: tolerance of the three windows above. -/
  longTolUs : Nat
  /-- BIT0_SPACE_US: space before a burst that encodes bit 0. -/
  bit0SpaceUs : Nat
  /-- BIT1_SPACE_US: space before a burst that encodes bit 1. -/
  bit1SpaceUs : Nat
  /-- BIT_TOL_US: tolerance of the two bit windows. -/
  bitTolUs : Nat
  /-- DEADLINE_MS: the one-shot deadline. -/
  deadlineMs : BitVec 32
  /-- TIMEOUT_ANY_STATE (R12). -/
  timeoutAnyState : Bool
deriving DecidableEq, Repr

/-- The defaults of R11 and R12. -/
def Params.default : Params :=
  { startMarkUs := 9000, startSpaceUs := 4500, repeatSpaceUs := 2250, longTolUs := 500,
    bit0SpaceUs := 500, bit1SpaceUs := 1600, bitTolUs := 250, deadlineMs := 100, timeoutAnyState := false }

/-- FREE VALUE (log entry 2, DESIGN CHOICE): the input ports of a cycle for which nothing has been placed. The
environment drives them; nothing constrains them. -/
opaque Config.freeInputs : Nat → Machine.Inputs

end Sys2Proof
end

