-- ==== Sys2Proof/WellFormed.lean ====
section
/-! DEFINITION. What counts as well formed: an operation (every one is, 30_encoding R77, R78), the operations
of one cycle (R73, R75, R80, 45_control R222) and the build-time parameters (00_scope R13). -/

namespace Sys2Proof

/-- Every operation with any operand is well formed: no value of `ctl` or `edge_ts` is reserved or illegal (R78). -/
def Instr.wellFormed : Instr → Bool
  | .reset => true
  | .take => true
  | .timeout => true
  | .edgeHigh _ => true
  | .edgeLow _ => true
  | .nop => true

/-- What can be wrong with a list of operations given as one cycle. -/
inductive CycleError where
  /-- A cycle with no operation: the decoder gives NOP there (R76). -/
  | empty
  /-- RESET excludes everything else (R75). -/
  | resetNotAlone
  /-- NOP is present exactly when no other operation is (R75). -/
  | nopNotAlone
  /-- At most one EDGE in a cycle (R73, 70_reset_and_hazards R290). -/
  | twoEdges
  /-- The order is TAKE, TIMEOUT, EDGE, each at most once (45_control R222). -/
  | notInCycleOrder
deriving DecidableEq, Repr

/-- Whether a list of numbers rises strictly. -/
def strictlyRising : List Nat → Bool
  | [] => true
  | [_] => true
  | a :: b :: rest => decide (a < b) && strictlyRising (b :: rest)

/-- The first thing wrong with the operations of a cycle, if any. -/
def cycleError (ops : List Instr) : Option CycleError :=
  if ops = [] then some .empty
  else if .reset ∈ ops ∧ ops ≠ [.reset] then some .resetNotAlone
  else if .nop ∈ ops ∧ ops ≠ [.nop] then some .nopNotAlone
  else if 1 < ops.countP Instr.isEdge then some .twoEdges
  else if strictlyRising (ops.map Instr.phase) = false then some .notInCycleOrder
  else none

/-- The operations of a cycle are well formed. -/
def cycleWellFormed (ops : List Instr) : Bool :=
  cycleError ops == none

/-- What can be wrong with the build-time parameters (R13). -/
inductive ParamsError where
  /-- R13 (a): a window's lower bound is negative. -/
  | negativeLowerBound
  /-- R13 (b): the two bit windows overlap. -/
  | bitWindowsOverlap
  /-- R13 (c): the frame-space and repeat-space windows overlap. -/
  | spaceWindowsOverlap
deriving DecidableEq, Repr

/-- The first condition of R13 that the parameters break, if any. -/
def Params.error (p : Params) : Option ParamsError :=
  if p.startMarkUs < p.longTolUs ∨ p.startSpaceUs < p.longTolUs ∨ p.repeatSpaceUs < p.longTolUs ∨
      p.bit0SpaceUs < p.bitTolUs ∨ p.bit1SpaceUs < p.bitTolUs then some .negativeLowerBound
  else if ¬ ((p.bit0SpaceUs : Int) + p.bitTolUs < (p.bit1SpaceUs : Int) - p.bitTolUs) then some .bitWindowsOverlap
  else if ¬ ((p.repeatSpaceUs : Int) + p.longTolUs < (p.startSpaceUs : Int) - p.longTolUs) then
    some .spaceWindowsOverlap
  else none

/-- The parameters meet all of R13. -/
def Params.wellFormed (p : Params) : Bool :=
  p.error == none

end Sys2Proof
end

