-- ==== Sys2Proof/Decode.lean ====
section
/-! DEFINITION. The decoder of a cycle (30_encoding R74 to R78), total over all 32 control vectors and every
timestamp, the model's byte form of a cycle's inputs (log entry 4), and the encoder. -/

namespace Sys2Proof

open Sys2Proof.Machine

/-- The operations a cycle carries, in the order they are performed (R76, `decodeCycle`). -/
def decodeCycle (ctl : Ctl) (ts : Micros) : List Instr :=
  if ctl.getLsbD 4 then [.reset]
  else
    let ops :=
      (if ctl.getLsbD 3 then [Instr.take] else []) ++
      (if ctl.getLsbD 2 then [Instr.timeout] else []) ++
      (if ctl.getLsbD 1 && ctl.getLsbD 0 then [Instr.edgeHigh ts] else []) ++
      (if ctl.getLsbD 1 && !ctl.getLsbD 0 then [Instr.edgeLow ts] else [])
    if ops = [] then [.nop] else ops

/-- The operations a cycle's input ports carry (R74, R76). -/
def opsOfInputs (i : Inputs) : List Instr :=
  decodeCycle i.ctl i.edgeTs

/-- An operation's match value over `ctl[4:0]` (R75, opcode table). -/
def Instr.ctlMatch : Instr → Ctl
  | .reset => 0b10000
  | .take => 0b01000
  | .timeout => 0b00100
  | .edgeHigh _ => 0b00011
  | .edgeLow _ => 0b00010
  | .nop => 0b00000

/-- An operation's mask over `ctl[4:0]` (R75, opcode table). -/
def Instr.ctlMask : Instr → Ctl
  | .reset => 0b10000
  | .take => 0b11000
  | .timeout => 0b10100
  | .edgeHigh _ => 0b10011
  | .edgeLow _ => 0b10011
  | .nop => 0b11110

/-- The timestamp an operation needs on `edge_ts`; an operation without an operand leaves the port at 0. -/
def Instr.operand : Instr → Micros
  | .reset => 0
  | .take => 0
  | .timeout => 0
  | .edgeHigh ts => ts
  | .edgeLow ts => ts
  | .nop => 0

/-- Why bytes are not a cycle's inputs (log entry 4). -/
inductive DecodeError where
  /-- Fewer than the nine bytes of one cycle. -/
  | tooShort
  /-- A bit above `ctl[4:0]` is set in the first byte: no control vector has it (R74). -/
  | notAControlVector
deriving DecidableEq, Repr

/-- Eight bytes, least significant first, as a timestamp (log entry 4). -/
def microsOfBytes (b0 b1 b2 b3 b4 b5 b6 b7 : Byte) : Micros :=
  b7 ++ b6 ++ b5 ++ b4 ++ b3 ++ b2 ++ b1 ++ b0

/-- A timestamp as eight bytes, least significant first (log entry 4). -/
def bytesOfMicros (ts : Micros) : List Byte :=
  [ts.extractLsb' 0 8, ts.extractLsb' 8 8, ts.extractLsb' 16 8, ts.extractLsb' 24 8,
   ts.extractLsb' 32 8, ts.extractLsb' 40 8, ts.extractLsb' 48 8, ts.extractLsb' 56 8]

/-- The input ports that nine bytes stand for, with the bytes left over: the control vector in the low five bits
of the first byte, then `edge_ts` (log entry 4). -/
def inputsOfBytes : List Byte → Except DecodeError (Inputs × List Byte)
  | c :: b0 :: b1 :: b2 :: b3 :: b4 :: b5 :: b6 :: b7 :: rest =>
    if c.extractLsb' 5 3 ≠ 0 then .error .notAControlVector
    else .ok (Inputs.ofCtl (c.extractLsb' 0 5) (microsOfBytes b0 b1 b2 b3 b4 b5 b6 b7), rest)
  | _ => .error .tooShort

/-- The operations of the cycle that nine bytes stand for, with the bytes left over. -/
def decodeBytes (bs : List Byte) : Except DecodeError (List Instr × List Byte) :=
  match inputsOfBytes bs with
  | .ok (i, rest) => .ok (opsOfInputs i, rest)
  | .error e => .error e

/-- The input ports that present one operation: its match value, and its operand on `edge_ts` (R74, R75). -/
def encode (i : Instr) : Inputs :=
  Inputs.ofCtl i.ctlMatch i.operand

/-- The input ports of a cycle that carries several operations: the bitwise OR of their encodings (R80). -/
def encodeCycle : List Instr → Inputs
  | [] => Inputs.quiet
  | i :: rest => (encode i).or (encodeCycle rest)

/-- The nine bytes of a cycle's input ports (log entry 4). -/
def bytesOfInputs (i : Inputs) : List Byte :=
  ((0 : BitVec 3) ++ i.ctl) :: bytesOfMicros i.edgeTs

/-- The nine bytes of a cycle that carries the given operations. -/
def encodeBytes (ops : List Instr) : List Byte :=
  bytesOfInputs (encodeCycle ops)

/-- The low `n` bytes of a number, least significant first. -/
def bytesOfNat : Nat → Nat → List Byte
  | 0, _ => []
  | n + 1, w => BitVec.ofNat 8 w :: bytesOfNat n (w / 256)

/-- The nine bytes of a table word: bit 0 is `ctl[0]`, and every bit from `nbits` up is 0 (log entry 4). -/
def bytesOfTableWord (nbits w : Nat) : List Byte :=
  bytesOfNat 9 (w % 2 ^ nbits)

/-- The operation a table word carries: the FIRST the cycle performs, where a word carries several strobes
(log entry 5); none where the bytes are no cycle. -/
def decodeTableWord (nbits w : Nat) : Option Instr :=
  match decodeBytes (bytesOfTableWord nbits w) with
  | .ok (ops, _) => ops.head?
  | .error _ => none

end Sys2Proof
end

