-- ==== Sys2Proof/Machine/State.lean ====
section
/-! DEFINITION. The state of the block: the ten registers of 10_state R20, the outputs of the cycle just
performed, and the model's own fields for the build-time parameters and the coming inputs. -/

namespace Sys2Proof.Machine

open Sys2Proof

/-- The values of the 3-bit register `state` (10_state R22): the five states of the source, and the three codes
that no operation reaches (R39, log entry 6). -/
inductive DecoderState where
  /-- 0b000, IDLE. -/
  | idle
  /-- 0b001, WFS. -/
  | waitForStart
  /-- 0b010, AOR. -/
  | addressOrRepeat
  /-- 0b011, RF. -/
  | receiveFrame
  /-- 0b100, WE. -/
  | waitEnd
  /-- 0b101, unreachable. -/
  | unreachable5
  /-- 0b110, unreachable. -/
  | unreachable6
  /-- 0b111, unreachable. -/
  | unreachable7
deriving DecidableEq, Repr

/-- The encoding of `state` (R22). -/
def DecoderState.code : DecoderState → BitVec 3
  | .idle => 0b000
  | .waitForStart => 0b001
  | .addressOrRepeat => 0b010
  | .receiveFrame => 0b011
  | .waitEnd => 0b100
  | .unreachable5 => 0b101
  | .unreachable6 => 0b110
  | .unreachable7 => 0b111

/-- Whether `state` holds one of the five states of the source (R22, R39). -/
def DecoderState.isLegal : DecoderState → Bool
  | .idle => true
  | .waitForStart => true
  | .addressOrRepeat => true
  | .receiveFrame => true
  | .waitEnd => true
  | .unreachable5 => false
  | .unreachable6 => false
  | .unreachable7 => false

/-- The payload of the result slot (R28, R29, R30). -/
structure DecodedFrame where
  /-- `frame.address` (R28). -/
  address : Byte
  /-- `frame.command` (R29). -/
  command : Byte
  /-- `frame.repeated` (R30). -/
  repeated : Bool
deriving DecidableEq, Repr

/-- The machine between two cycles. -/
structure State where
  /-- The MODEL's own field: the build-time parameters (00_scope R11, R12; 10_state R42, log entry 1). -/
  params : Params
  /-- `state` (R22). -/
  state : DecoderState
  /-- `lastEdgeTimestamp` (R23). -/
  lastEdgeTimestamp : Micros
  /-- `shiftRegister` (R24). -/
  shiftRegister : FrameWord
  /-- `bitCount` (R25). -/
  bitCount : BitVec 8
  /-- `deadlineArmed` (R26). -/
  deadlineArmed : Bool
  /-- `hasUnreadFrame` (R27). -/
  hasUnreadFrame : Bool
  /-- `frame.address`, `frame.command`, `frame.repeated` (R28 to R30). -/
  frame : DecodedFrame
  /-- `indicator` (R31). -/
  indicator : Bool
  /-- The MODEL's own field: the output ports of the cycle just performed (R71, R72, log entry 7). -/
  out : Outputs
  /-- The MODEL's own field: the input ports of the coming cycles, the next one first (log entry 2). -/
  pending : List Inputs
  /-- The MODEL's own field: how many free inputs have been drawn (log entry 2). -/
  freeDraws : Nat
deriving DecidableEq, Repr

/-- Why a step stops with a fault: never. No operation of the block stops it (60_exceptions R240: every error is
recoverable), so there is no constructor (log entry 14); nobody raises one, which is safe. -/
inductive Fault
deriving DecidableEq, Repr

/-- Why a step is refused. -/
inductive Refusal where
  /-- Raised only by an arm of `exec` for an operation without a meaning; no arm of this model raises it. Safe. -/
  | notModelled (mnemonic : String)
deriving DecidableEq, Repr

/-- The output ports before any cycle: pulses 0, levels showing the reset registers, the constant delay
(log entry 7, DESIGN CHOICE). -/
def Outputs.beforeAnyCycle : Outputs :=
  { takeValid := false, takeAddress := 0, takeCommand := 0, takeRepeated := false, timerArm := false,
    timerDelayMs := Params.default.deadlineMs, timerCancel := false, indicator := false, framePending := false,
    diagValid := false, diagCode := 0, diagDelta := 0 }

/-- The machine right after RESET (10_state R38), built with the default parameters (00_scope R11, R12). -/
def State.reset : State :=
  { params := Params.default
    state := .idle
    lastEdgeTimestamp := 0
    shiftRegister := 0x00000000
    bitCount := 0
    deadlineArmed := false
    hasUnreadFrame := false
    frame := { address := 0x00, command := 0x00, repeated := false }
    indicator := false
    out := Outputs.beforeAnyCycle
    pending := []
    freeDraws := 0 }

end Sys2Proof.Machine
end

