-- ==== Sys2Proof/Machine/Flags.lean ====
section
/-! DEFINITION. The one-bit registers and what drives them: `hasUnreadFrame` (10_state R27), `indicator` (R31)
and `deadlineArmed` (R26) with the timer request pulses (43_deadline_guard R184, R185). -/

namespace Sys2Proof.Machine

open Sys2Proof

/-- `hasUnreadFrame <- 1` (41_frame_assembly R140, R142). -/
def setUnread (s : State) : State :=
  { s with hasUnreadFrame := true }

/-- `hasUnreadFrame <- 0` (44_consumer_read R200). -/
def clearUnread (s : State) : State :=
  { s with hasUnreadFrame := false }

/-- `indicator <- b` (R31). -/
def setIndicator (b : Bool) (s : State) : State :=
  { s with indicator := b }

/-- Request a deadline: a `timer_arm` pulse with `timer_delay_ms = DEADLINE_MS`, and `deadlineArmed <- 1` (R184). -/
def armDeadline (s : State) : State :=
  { s with
    deadlineArmed := true
    out := { s.out with timerArm := true, timerDelayMs := s.params.deadlineMs } }

/-- Cancel the deadline if one is outstanding: a `timer_cancel` pulse and `deadlineArmed <- 0` (R185). -/
def cancelDeadline (s : State) : State :=
  if s.deadlineArmed then { s with deadlineArmed := false, out := { s.out with timerCancel := true } }
  else s

/-- The one-shot has fired: `deadlineArmed <- 0`, no pulse (R181). -/
def consumeDeadline (s : State) : State :=
  { s with deadlineArmed := false }

end Sys2Proof.Machine
end

