-- ==== Sys2Proof/Machine/Ops.lean ====
section
/-! DEFINITION. The operations the meanings share: the inputs of a cycle, the default outputs, the diagnostic
port, the entry actions, taking an error, and the recovery from an unreachable state. The block has no memory
(20_memory R50) and no trap mechanism (60_exceptions R245). -/

namespace Sys2Proof.Machine

open Sys2Proof

/-- The machine with the given cycles' inputs placed before whatever was placed already (log entry 2). -/
def present (cycles : List Inputs) (s : State) : State :=
  { s with pending := cycles ++ s.pending }

/-- The input ports of the coming cycle: the first that is placed, or a free value (60_exceptions R256, log entry 2). -/
def nextInputs (s : State) : Inputs :=
  match s.pending with
  | i :: _ => i
  | [] => Config.freeInputs s.freeDraws

/-- The machine once the inputs of the coming cycle have been sampled (30_encoding R70, log entry 2). -/
def afterSampling (s : State) : State :=
  match s.pending with
  | _ :: rest => { s with pending := rest }
  | [] => { s with freeDraws := s.freeDraws + 1 }

/-- The outputs of a cycle before its operations: pulses 0, `take_valid` 0, `take_*` and the levels from the
registers at the start of the cycle, the constant delay (45_control R222; 30_encoding R72; 44_consumer_read R202). -/
def defaultOutputs (s : State) : Outputs :=
  { takeValid := false, takeAddress := s.frame.address, takeCommand := s.frame.command,
    takeRepeated := s.frame.repeated, timerArm := false, timerDelayMs := s.params.deadlineMs,
    timerCancel := false, indicator := s.indicator, framePending := s.hasUnreadFrame,
    diagValid := false, diagCode := 0, diagDelta := 0 }

/-- The start of a cycle: `out <- defaults` (R222). -/
def beginCycle (s : State) : State :=
  { s with out := defaultOutputs s }

/-- `state <- x` (00_scope R16). -/
def setState (x : DecoderState) (s : State) : State :=
  { s with state := x }

/-- `raise Diag(code, delta)`: drives the diagnostic port of this cycle and nothing else (00_scope R16;
60_exceptions R243, R244). -/
def raiseDiag (d : Diag) (dt : Micros) (s : State) : State :=
  { s with out := { s.out with diagValid := true, diagCode := d.code, diagDelta := dt } }

/-- `enterWaitForStart()` (43_deadline_guard R184). -/
def enterWaitForStart (s : State) : State :=
  armDeadline (setIndicator true (setState .waitForStart s))

/-- `enterIdle()` (43_deadline_guard R185). -/
def enterIdle (s : State) : State :=
  cancelDeadline (setIndicator false (setState .idle s))

/-- Taking an error that enters Idle: the diagnostic pulse, then the entry actions; nothing is saved and there is
nothing to return from (60_exceptions R245, R246). -/
def takeError (d : Diag) (dt : Micros) (s : State) : State :=
  enterIdle (raiseDiag d dt s)

/-- `lastEdgeTimestamp <- ts`, the last act of every EDGE (40_edge_fsm R101). -/
def recordEdge (ts : Micros) (s : State) : State :=
  { s with lastEdgeTimestamp := ts }

/-- Every register to its RESET value (10_state R38, 45_control R221); the parameters, the outputs and the coming
inputs are no registers. -/
def resetRegisters (s : State) : State :=
  { s with
    state := .idle
    lastEdgeTimestamp := 0
    shiftRegister := 0x00000000
    bitCount := 0
    deadlineArmed := false
    hasUnreadFrame := false
    frame := { address := 0x00, command := 0x00, repeated := false }
    indicator := false }

/-- The end of a cycle in an unreachable state: Idle, indicator off, `deadlineArmed` cleared without a
`timer_cancel` pulse; in every other state nothing (10_state R39, 45_control R222, log entry 6). -/
def recoverUnreachable (s : State) : State :=
  if s.state.isLegal then s
  else { s with state := .idle, indicator := false, deadlineArmed := false }

end Sys2Proof.Machine
end

