-- ==== Sys2Proof/Machine/Control.lean ====
section
/-! DEFINITION. NOP and RESET (45_control R220, R221). -/

namespace Sys2Proof.Machine

open Sys2Proof

/-- The meaning of NOP: nothing (R220). -/
def execNop (s : State) : Host.Outcome State Fault Refusal :=
  .next s

/-- The meaning of RESET: every register to its reset value, no pulse (R221). -/
def execReset (s : State) : Host.Outcome State Fault Refusal :=
  .next (resetRegisters s)

end Sys2Proof.Machine
end

