-- ==== Sys2Proof/Machine/FrameAssembly.lean ====
section
/-! DEFINITION. The bit accumulator, the frame extraction, the checksum validation and the two writes of the
result slot (41_frame_assembly R130 to R142). -/

namespace Sys2Proof.Machine

open Sys2Proof

/-- ReceiveFrame entry clears the accumulator (R130, 40_edge_fsm R106). -/
def clearAccumulator (s : State) : State :=
  { s with shiftRegister := 0x00000000, bitCount := 0 }

/-- The shift of one bit: the new bit at bit 31, the others one place to the right (R131). -/
def shiftWord (w : FrameWord) (b : Bool) : FrameWord :=
  (w >>> 1) ||| ((BitVec.ofBool b).setWidth 32 <<< 31)

/-- `shiftIn(b)`: the shift, then the count modulo 256 (R131, R132). -/
def shiftIn (b : Bool) (s : State) : State :=
  { s with shiftRegister := shiftWord s.shiftRegister b, bitCount := s.bitCount + 1 }

/-- `address = bits[7:0]` (R133, conflict C1). -/
def frameAddress (w : FrameWord) : Byte := w.extractLsb' 0 8

/-- `addressInverse = bits[15:8]` (R133). -/
def frameAddressInverse (w : FrameWord) : Byte := w.extractLsb' 8 8

/-- `command = bits[23:16]` (R133). -/
def frameCommand (w : FrameWord) : Byte := w.extractLsb' 16 8

/-- `commandInverse = bits[31:24]` (R133). -/
def frameCommandInverse (w : FrameWord) : Byte := w.extractLsb' 24 8

/-- Validation: each byte and its inverse sum to 0xFF modulo 256 (R134). -/
def frameValid (w : FrameWord) : Bool :=
  (frameCommand w + frameCommandInverse w == 0xFF) && (frameAddress w + frameAddressInverse w == 0xFF)

/-- `emitFrame(a, c)` (R140). -/
def emitFrame (a c : Byte) (s : State) : State :=
  setUnread { s with frame := { address := a, command := c, repeated := false } }

/-- `emitRepeat()`: the payload is kept (R142). -/
def emitRepeat (s : State) : State :=
  setUnread { s with frame := { s.frame with repeated := true } }

/-- `completeFrame(Δ)`: emission or ChecksumMismatch, and WaitEnd regardless of validity (R136). -/
def completeFrame (dt : Micros) (s : State) : State :=
  setState .waitEnd
    (if frameValid s.shiftRegister then emitFrame (frameAddress s.shiftRegister) (frameCommand s.shiftRegister) s
     else raiseDiag .checksumMismatch dt s)

end Sys2Proof.Machine
end

