-- ==== Sys2Proof/Machine/Operands.lean ====
section
/-! DEFINITION. The operand of an EDGE and the timing-window classifier (42_timing_windows R160 to R167):
combinational, with no state of its own. -/

namespace Sys2Proof.Machine

open Sys2Proof

/-- Δ of an edge with timestamp `ts`: `ts -_64 lastEdgeTimestamp` (R160). -/
def delta (s : State) (ts : Micros) : Micros :=
  ts - s.lastEdgeTimestamp

/-- `inRange(d, target, tol)`: `target − tol ≤ d ≤ target + tol` over the integers, `d` unsigned (R161). -/
def inRange (d : Micros) (target tol : Nat) : Bool :=
  decide ((target : Int) - tol ≤ d.toNat) && decide ((d.toNat : Int) ≤ target + tol)

/-- The start-mark window (R163). -/
def isStartMark (p : Params) (d : Micros) : Bool :=
  inRange d p.startMarkUs p.longTolUs

/-- The frame-space window (R164). -/
def isFrameSpace (p : Params) (d : Micros) : Bool :=
  inRange d p.startSpaceUs p.longTolUs

/-- The repeat-space window (R165). -/
def isRepeatSpace (p : Params) (d : Micros) : Bool :=
  inRange d p.repeatSpaceUs p.longTolUs

/-- The classes of the interval after the start mark (R166). -/
inductive StartClass where
  /-- A frame follows. -/
  | frameSpace
  /-- A repeat code. -/
  | repeatSpace
  /-- Neither window. -/
  | noMatch
deriving DecidableEq, Repr

/-- `classifyAfterStart`, the frame space tested first (R166). -/
def classifyAfterStart (p : Params) (d : Micros) : StartClass :=
  if isFrameSpace p d then .frameSpace
  else if isRepeatSpace p d then .repeatSpace
  else .noMatch

/-- The classes of a bit's space (R167). -/
inductive BitClass where
  /-- One of the two bit windows. -/
  | bit (b : Bool)
  /-- Neither window. -/
  | noBit
deriving DecidableEq, Repr

/-- `classifyBit`, bit 0 tested first (R167). -/
def classifyBit (p : Params) (d : Micros) : BitClass :=
  if inRange d p.bit0SpaceUs p.bitTolUs then .bit false
  else if inRange d p.bit1SpaceUs p.bitTolUs then .bit true
  else .noBit

end Sys2Proof.Machine
end

