-- ==== Sys2Proof/Machine/Edge.lean ====
section
/-! DEFINITION. EDGE_HIGH and EDGE_LOW: one definition per cell of the state table (40_edge_fsm R100 to R111). -/

namespace Sys2Proof.Machine

open Sys2Proof

/-- Idle, HIGH (R102). -/
def edgeIdleHigh (s : State) : State :=
  enterWaitForStart s

/-- Idle, LOW: ignored (R103, conflict C8). -/
def edgeIdleLow (s : State) : State :=
  s

/-- WaitForStart, HIGH: InvalidStartLevel (R104). -/
def edgeWaitForStartHigh (dt : Micros) (s : State) : State :=
  takeError .invalidStartLevel dt s

/-- WaitForStart, LOW: the start mark, or InvalidStartTiming (R105). -/
def edgeWaitForStartLow (dt : Micros) (s : State) : State :=
  if isStartMark s.params dt then setState .addressOrRepeat s
  else takeError .invalidStartTiming dt s

/-- AddressOrRepeat, HIGH: a frame, a repeat code, or ignored (R106). -/
def edgeAddressOrRepeatHigh (dt : Micros) (s : State) : State :=
  match classifyAfterStart s.params dt with
  | .frameSpace => setState .receiveFrame (clearAccumulator s)
  | .repeatSpace => setState .waitEnd (emitRepeat s)
  | .noMatch => s

/-- AddressOrRepeat, LOW: InvalidStartLevel (R107). -/
def edgeAddressOrRepeatLow (dt : Micros) (s : State) : State :=
  takeError .invalidStartLevel dt s

/-- A valid bit in ReceiveFrame: shifted in, and the frame completed when the count reaches 32 (R108). -/
def acceptBit (b : Bool) (dt : Micros) (s : State) : State :=
  if (shiftIn b s).bitCount = 32 then completeFrame dt (shiftIn b s) else shiftIn b s

/-- ReceiveFrame, HIGH: a bit, or InvalidBitTiming (R108). -/
def edgeReceiveFrameHigh (dt : Micros) (s : State) : State :=
  match classifyBit s.params dt with
  | .noBit => takeError .invalidBitTiming dt s
  | .bit b => acceptBit b dt s

/-- ReceiveFrame, LOW: ignored; the mark length is never checked (R109). -/
def edgeReceiveFrameLow (s : State) : State :=
  s

/-- WaitEnd, HIGH: ignored (R110). -/
def edgeWaitEndHigh (s : State) : State :=
  s

/-- WaitEnd, LOW: the normal end of a frame or a repeat code (R111). -/
def edgeWaitEndLow (s : State) : State :=
  enterIdle s

/-- EDGE_HIGH by state; an unreachable state ignores the strobe (R101, 10_state R39, log entry 6). -/
def edgeHigh (ts : Micros) (s : State) : State :=
  match s.state with
  | .idle => recordEdge ts (edgeIdleHigh s)
  | .waitForStart => recordEdge ts (edgeWaitForStartHigh (delta s ts) s)
  | .addressOrRepeat => recordEdge ts (edgeAddressOrRepeatHigh (delta s ts) s)
  | .receiveFrame => recordEdge ts (edgeReceiveFrameHigh (delta s ts) s)
  | .waitEnd => recordEdge ts (edgeWaitEndHigh s)
  | .unreachable5 => s
  | .unreachable6 => s
  | .unreachable7 => s

/-- EDGE_LOW by state; an unreachable state ignores the strobe (R101, 10_state R39, log entry 6). -/
def edgeLow (ts : Micros) (s : State) : State :=
  match s.state with
  | .idle => recordEdge ts (edgeIdleLow s)
  | .waitForStart => recordEdge ts (edgeWaitForStartLow (delta s ts) s)
  | .addressOrRepeat => recordEdge ts (edgeAddressOrRepeatLow (delta s ts) s)
  | .receiveFrame => recordEdge ts (edgeReceiveFrameLow s)
  | .waitEnd => recordEdge ts (edgeWaitEndLow s)
  | .unreachable5 => s
  | .unreachable6 => s
  | .unreachable7 => s

/-- The meaning of EDGE_HIGH (R101). -/
def execEdgeHigh (ts : Micros) (s : State) : Host.Outcome State Fault Refusal :=
  .next (edgeHigh ts s)

/-- The meaning of EDGE_LOW (R101). -/
def execEdgeLow (ts : Micros) (s : State) : Host.Outcome State Fault Refusal :=
  .next (edgeLow ts s)

end Sys2Proof.Machine
end

