-- ==== Sys2Proof/Machine/Take.lean ====
section
/-! DEFINITION. TAKE: the consumer's atomic test-and-clear read of the result slot (44_consumer_read R200). -/

namespace Sys2Proof.Machine

open Sys2Proof

/-- The slot shown on `take_*`, with `take_valid` the flag (R200). -/
def showSlot (s : State) : State :=
  { s with
    out := { s.out with
      takeValid := s.hasUnreadFrame, takeAddress := s.frame.address, takeCommand := s.frame.command,
      takeRepeated := s.frame.repeated } }

/-- TAKE: show the slot, then clear the flag (R200). -/
def takeOp (s : State) : State :=
  clearUnread (showSlot s)

/-- The meaning of TAKE (R200). -/
def execTake (s : State) : Host.Outcome State Fault Refusal :=
  .next (takeOp s)

end Sys2Proof.Machine
end

