-- ==== Sys2Proof/Machine/Timeout.lean ====
section
/-! DEFINITION. TIMEOUT: an expiry of the deadline (43_deadline_guard R181 to R183). -/

namespace Sys2Proof.Machine

open Sys2Proof

/-- Whether an honoured fire forces Idle: in WaitForStart, and with TIMEOUT_ANY_STATE in every state but Idle
(R181, R182; conflict C5). -/
def timeoutForcesIdle (s : State) : Bool :=
  (s.state == .waitForStart) || (s.params.timeoutAnyState && (s.state != .idle))

/-- TIMEOUT: a stale fire changes nothing; an honoured one consumes the deadline and may force Idle with
StartTimeout and no cancel (R181). An unreachable state ignores the strobe (10_state R39, log entry 6). -/
def timeoutOp (s : State) : State :=
  if s.deadlineArmed && s.state.isLegal then
    if timeoutForcesIdle s then takeError .startTimeout 0 (consumeDeadline s) else consumeDeadline s
  else s

/-- The meaning of TIMEOUT (R181). -/
def execTimeout (s : State) : Host.Outcome State Fault Refusal :=
  .next (timeoutOp s)

end Sys2Proof.Machine
end

