-- ==== Sys2Proof/Machine/Dispatch.lean ====
section
/-! DEFINITION. One arm per operation: what an operation does within its cycle (45_control R222). -/

namespace Sys2Proof.Machine

open Sys2Proof

def exec (i : Instr) (s : State) : Host.Outcome State Fault Refusal :=
  match i with
  | .reset => Sys2Proof.Machine.execReset s
  | .take => Sys2Proof.Machine.execTake s
  | .timeout => Sys2Proof.Machine.execTimeout s
  | .edgeHigh ts => Sys2Proof.Machine.execEdgeHigh ts s
  | .edgeLow ts => Sys2Proof.Machine.execEdgeLow ts s
  | .nop => Sys2Proof.Machine.execNop s

end Sys2Proof.Machine
end

