-- ==== Sys2Proof/Machine/Cycle.lean ====
section
/-! DEFINITION. The composition of a cycle (45_control R222): the default outputs, the decoded operations in
their order, and the recovery from an unreachable state. -/

namespace Sys2Proof.Machine

open Sys2Proof

/-- The operations one after another, each seeing the writes of those before it; the first stop ends them (R222). -/
def execAll : List Instr → State → Host.Outcome State Fault Refusal
  | [], s => .next s
  | i :: rest, s =>
    match exec i s with
    | .next t => execAll rest t
    | .fault r => .fault r
    | .refused r => .refused r

/-- One clock cycle with the given input ports (R222). -/
def runCycle (i : Inputs) (s : State) : Host.Outcome State Fault Refusal :=
  match execAll (opsOfInputs i) (beginCycle s) with
  | .next t => .next (recoverUnreachable t)
  | .fault r => .fault r
  | .refused r => .refused r

/-- The clock cycle with the inputs that come next (30_encoding R70, log entry 2). -/
def clockCycle (s : State) : Host.Outcome State Fault Refusal :=
  runCycle (nextInputs s) (afterSampling s)

/-- The operation whose table word is `w`, presented on the ports of the coming cycle, before whatever is placed
already (log entries 3 and 4); a word that is no cycle places nothing. -/
def presentTableWord (s : State) (nbits w : Nat) : State :=
  match inputsOfBytes (bytesOfTableWord nbits w) with
  | .ok (i, _) => present [i] s
  | .error _ => s

end Sys2Proof.Machine
end

