-- ==== Sys2Proof/Machine/Step.lean ====
section
/-! DEFINITION. One step of the machine is one clock cycle (45_control R222). -/

namespace Sys2Proof.Machine

open Sys2Proof

/-- One step: sample the input ports and perform the cycle (30_encoding R70, 45_control R222). -/
def step (s : State) : Host.Outcome State Fault Refusal :=
  clockCycle s

/-- The machine with the operation of a table word on its ports, so that the very next step performs it
(log entries 3 and 4). -/
def State.withFetchWord (s : State) (nbits w : Nat) : State :=
  presentTableWord s nbits w

end Sys2Proof.Machine
end

