-- ==== Sys2Proof/Machine/Trace.lean ====
section
/-! DEFINITION. The trace syntax as syntax trees, its pseudo-operations and the input cycles they stand for
(30_encoding R80 to R83). -/

namespace Sys2Proof.Machine

open Sys2Proof

/-- `time`: absolute, or relative to the previous EDGE's `edge_ts` (R80). -/
inductive TraceTime where
  /-- `@ number`. -/
  | absolute (n : Micros)
  /-- `+ number`. -/
  | relative (n : Micros)
deriving DecidableEq, Repr

/-- `op` (R80); the level of an EDGE is `true` for `H`. -/
inductive TraceOp where
  /-- `NOP`. -/
  | nop
  /-- `RESET`. -/
  | reset
  /-- `TAKE`. -/
  | take
  /-- `TIMEOUT`. -/
  | timeout
  /-- `EDGE lvl time`. -/
  | edge (high : Bool) (t : TraceTime)
deriving DecidableEq, Repr

/-- `item`: one operation, a braced group, or a pseudo-operation (R80, R82). -/
inductive TraceItem where
  /-- One operation: one cycle. -/
  | single (o : TraceOp)
  /-- A braced group: one cycle carrying several strobes. -/
  | group (os : List TraceOp)
  /-- `START t`. -/
  | start (t : Micros)
  /-- `BIT b`. -/
  | bit (b : Bool)
  /-- `RAWFRAME t, w`. -/
  | rawFrame (t : Micros) (w : FrameWord)
  /-- `FRAME t, a, c`. -/
  | frame (t : Micros) (a c : Byte)
  /-- `REPEAT t`. -/
  | repeatCode (t : Micros)
deriving DecidableEq, Repr

/-- Why a trace is refused. -/
inductive TraceError where
  /-- A group with more than one EDGE (R80). -/
  | twoEdgesInGroup
  /-- A group with RESET in it (R80). -/
  | resetInGroup
  /-- A character no token begins with (log entry 15). -/
  | badCharacter
  /-- A number that is not decimal or `0x` hexadecimal (R80). -/
  | badNumber
  /-- A number too wide for its operand (log entry 15). -/
  | tooWide
  /-- A line that is none of R80's and R82's forms. -/
  | badLine
deriving DecidableEq, Repr

/-- MARK_US, the length of a mark in the pseudo-operations (R81). -/
def markUs : Micros := 560

/-- The timestamp an EDGE's time stands for, after an EDGE at `prev` (R80). DESIGN CHOICE (log entry 18): a relative
time whose sum passes 2^64 wraps; R80 writes a plain `+`. -/
def TraceTime.resolve (prev : Micros) : TraceTime → Micros
  | .absolute n => n
  | .relative n => prev + n

/-- The inputs of one operation, and the `edge_ts` of the latest EDGE after it (R80). -/
def TraceOp.inputs (prev : Micros) : TraceOp → Inputs × Micros
  | .nop => (encode .nop, prev)
  | .reset => (encode .reset, prev)
  | .take => (encode .take, prev)
  | .timeout => (encode .timeout, prev)
  | .edge true t => (encode (.edgeHigh (t.resolve prev)), t.resolve prev)
  | .edge false t => (encode (.edgeLow (t.resolve prev)), t.resolve prev)

/-- Whether an operation is an EDGE. -/
def TraceOp.isEdge : TraceOp → Bool
  | .nop => false
  | .reset => false
  | .take => false
  | .timeout => false
  | .edge _ _ => true

/-- The bitwise OR of a group's members (R80). -/
def groupInputs (prev : Micros) : List TraceOp → Inputs × Micros
  | [] => (Inputs.quiet, prev)
  | o :: rest =>
    let (i, prev') := o.inputs prev
    let (j, prev'') := groupInputs prev' rest
    (i.or j, prev'')

/-- The 32 BITs of a word, bit 0 first, from bit `k` on (R82). -/
def bitItems (w : FrameWord) (k : Nat) : Nat → List TraceItem
  | 0 => []
  | n + 1 => .bit (w.getLsbD k) :: bitItems w (k + 1) n

/-- The word `FRAME t, a, c` sends: `{~c, c, ~a, a}` (R82). -/
def frameWord (a c : Byte) : FrameWord :=
  (~~~c) ++ c ++ (~~~a) ++ a

/-- An EDGE a given time after the previous one. -/
def edgeAfter (high : Bool) (us : Micros) : TraceItem :=
  .single (.edge high (.relative us))

/-- A space parameter as a relative time, modulo 2^64 (log entry 9). -/
def paramUs (n : Nat) : Micros := BitVec.ofNat 64 n

/-- `START t`: the start burst (R82). -/
def expandStart (p : Params) (t : Micros) : List TraceItem :=
  [.single (.edge true (.absolute t)), edgeAfter false (paramUs p.startMarkUs)]

/-- `BIT b`: the end of the current mark, then the next mark after the bit's space (R82). -/
def expandBit (p : Params) (b : Bool) : List TraceItem :=
  [edgeAfter false markUs, edgeAfter true (paramUs (if b then p.bit1SpaceUs else p.bit0SpaceUs))]

/-- `BIT` for each item of a list that is one; other items stay. -/
def expandBits (p : Params) : List TraceItem → List TraceItem
  | [] => []
  | .bit b :: rest => expandBit p b ++ expandBits p rest
  | x :: rest => x :: expandBits p rest

/-- `RAWFRAME t, w` (R82): 68 cycles. -/
def expandRawFrame (p : Params) (t : Micros) (w : FrameWord) : List TraceItem :=
  expandStart p t ++ [edgeAfter true (paramUs p.startSpaceUs)] ++ expandBits p (bitItems w 0 32) ++
    [edgeAfter false markUs]

/-- `REPEAT t` (R82): 4 cycles. -/
def expandRepeat (p : Params) (t : Micros) : List TraceItem :=
  expandStart p t ++ [edgeAfter true (paramUs p.repeatSpaceUs), edgeAfter false markUs]

/-- A pseudo-operation's expansion; an operation or a group stands for itself (R82). -/
def TraceItem.expand (p : Params) : TraceItem → List TraceItem
  | .single o => [.single o]
  | .group os => [.group os]
  | .start t => expandStart p t
  | .bit b => expandBit p b
  | .rawFrame t w => expandRawFrame p t w
  | .frame t a c => expandRawFrame p t (frameWord a c)
  | .repeatCode t => expandRepeat p t

/-- The inputs of one expanded item (R80); a pseudo-operation is no cycle of its own. -/
def TraceItem.cycle (prev : Micros) : TraceItem → Except TraceError (Inputs × Micros)
  | .single o => .ok (o.inputs prev)
  | .group os =>
    if 1 < os.countP TraceOp.isEdge then .error .twoEdgesInGroup
    else if .reset ∈ os then .error .resetInGroup
    else .ok (groupInputs prev os)
  | .start _ => .error .badLine
  | .bit _ => .error .badLine
  | .rawFrame _ _ => .error .badLine
  | .frame _ _ _ => .error .badLine
  | .repeatCode _ => .error .badLine

/-- The cycles of expanded items, after an EDGE at `prev`. -/
def cyclesOf (prev : Micros) : List TraceItem → Except TraceError (List Inputs)
  | [] => .ok []
  | x :: rest =>
    match x.cycle prev with
    | .error e => .error e
    | .ok (i, prev') =>
      match cyclesOf prev' rest with
      | .error e => .error e
      | .ok is => .ok (i :: is)

/-- The cycles of a trace; before the first EDGE the previous timestamp is 0 (R80, R82). -/
def traceCycles (p : Params) (items : List TraceItem) : Except TraceError (List Inputs) :=
  cyclesOf 0 (items.flatMap (TraceItem.expand p))

end Sys2Proof.Machine
end

