-- ==== Sys2Proof/Machine/TraceText.lean ====
section
/-! DEFINITION. The trace syntax as text: one line at a time, as a list of characters (30_encoding R80, R82;
log entry 15 for what R80's grammar leaves to the reader: blanks, label names, number ranges). -/

namespace Sys2Proof.Machine

open Sys2Proof

/-- The tokens of a line. -/
inductive Token where
  /-- A run of letters, digits and underscores that begins with no digit. -/
  | word (cs : List Char)
  /-- A decimal or `0x` hexadecimal number. -/
  | number (n : Nat)
  /-- `@`. -/
  | atSign
  /-- `+`. -/
  | plus
  /-- `,`. -/
  | comma
  /-- `:`. -/
  | colon
  /-- The opening brace of a group. -/
  | openBrace
  /-- The closing brace of a group. -/
  | closeBrace
deriving DecidableEq, Repr

/-- Whether a character is a decimal digit. -/
def isDigitChar (c : Char) : Bool :=
  decide (48 ≤ c.toNat) && decide (c.toNat ≤ 57)

/-- Whether a character may stand in a word or a number. -/
def isWordChar (c : Char) : Bool :=
  isDigitChar c || (decide (65 ≤ c.toNat) && decide (c.toNat ≤ 90)) ||
    (decide (97 ≤ c.toNat) && decide (c.toNat ≤ 122)) || decide (c.toNat = 95)

/-- A hexadecimal digit's value. -/
def hexValue (c : Char) : Option Nat :=
  if isDigitChar c then some (c.toNat - 48)
  else if 65 ≤ c.toNat ∧ c.toNat ≤ 70 then some (c.toNat - 55)
  else if 97 ≤ c.toNat ∧ c.toNat ≤ 102 then some (c.toNat - 87)
  else none

/-- The digits of a number in a base, most significant first. -/
def digitsValue (base : Nat) : Nat → List Char → Option Nat
  | acc, [] => some acc
  | acc, c :: rest =>
    match hexValue c with
    | some v => if v < base then digitsValue base (acc * base + v) rest else none
    | none => none

/-- The token a run of word characters stands for, if it is not empty. -/
def runToken (run : List Char) : Except TraceError (List Token) :=
  match run with
  | [] => .ok []
  | c :: rest =>
    if isDigitChar c then
      match c, rest with
      | '0', 'x' :: h :: hs =>
        match digitsValue 16 0 (h :: hs) with
        | some n => .ok [.number n]
        | none => .error .badNumber
      | _, _ =>
        match digitsValue 10 0 (c :: rest) with
        | some n => .ok [.number n]
        | none => .error .badNumber
    else .ok [.word (c :: rest)]

/-- The token of a single character that is no word character: none for a blank. -/
def charToken (c : Char) : Except TraceError (List Token) :=
  if c.toNat = 32 ∨ c.toNat = 9 then .ok []
  else if c = '@' then .ok [.atSign]
  else if c = '+' then .ok [.plus]
  else if c = ',' then .ok [.comma]
  else if c = ':' then .ok [.colon]
  else if c.toNat = 123 then .ok [.openBrace]
  else if c.toNat = 125 then .ok [.closeBrace]
  else .error .badCharacter

/-- The tokens of a line; `run` holds the word characters read so far, last first, and a semicolon ends the line (R80). -/
def lex (run : List Char) : List Char → Except TraceError (List Token)
  | [] => runToken run.reverse
  | c :: rest =>
    if c = ';' then runToken run.reverse
    else if isWordChar c then lex (c :: run) rest
    else
      match runToken run.reverse, charToken c, lex [] rest with
      | .ok a, .ok b, .ok t => .ok (a ++ b ++ t)
      | .error e, _, _ => .error e
      | _, .error e, _ => .error e
      | _, _, .error e => .error e

/-- A number as a bit vector, refused where it does not fit (log entry 15). -/
def fit (w n : Nat) : Except TraceError (BitVec w) :=
  if n < 2 ^ w then .ok (BitVec.ofNat w n) else .error .tooWide

/-- The level of an EDGE: `H` or `L` (R80). -/
def levelOf (cs : List Char) : Option Bool :=
  if cs = ['H'] then some true
  else if cs = ['L'] then some false
  else none

/-- An operation at the front of the tokens, with the tokens after it (R80). -/
def parseOp : List Token → Except TraceError (TraceOp × List Token)
  | .word ['N', 'O', 'P'] :: rest => .ok (.nop, rest)
  | .word ['R', 'E', 'S', 'E', 'T'] :: rest => .ok (.reset, rest)
  | .word ['T', 'A', 'K', 'E'] :: rest => .ok (.take, rest)
  | .word ['T', 'I', 'M', 'E', 'O', 'U', 'T'] :: rest => .ok (.timeout, rest)
  | .word ['E', 'D', 'G', 'E'] :: .word l :: .atSign :: .number n :: rest =>
    match levelOf l, fit 64 n with
    | some h, .ok t => .ok (.edge h (.absolute t), rest)
    | none, _ => .error .badLine
    | _, .error e => .error e
  | .word ['E', 'D', 'G', 'E'] :: .word l :: .plus :: .number n :: rest =>
    match levelOf l, fit 64 n with
    | some h, .ok t => .ok (.edge h (.relative t), rest)
    | none, _ => .error .badLine
    | _, .error e => .error e
  | _ => .error .badLine

/-- The operations of a group, up to its closing brace, which ends the item; `fuel` bounds their number (R80). -/
def parseGroup : Nat → List Token → Except TraceError (List TraceOp)
  | 0, _ => .error .badLine
  | fuel + 1, ts =>
    match parseOp ts with
    | .ok (o, [.closeBrace]) => .ok [o]
    | .ok (o, .comma :: rest) =>
      match parseGroup fuel rest with
      | .ok os => .ok (o :: os)
      | .error e => .error e
    | .ok _ => .error .badLine
    | .error e => .error e

/-- An item (R80) or a pseudo-operation (R82). -/
def parseItem : List Token → Except TraceError TraceItem
  | .openBrace :: rest =>
    match parseGroup rest.length rest with
    | .ok os => .ok (.group os)
    | .error e => .error e
  | [.word ['S', 'T', 'A', 'R', 'T'], .number t] =>
    match fit 64 t with
    | .ok t => .ok (.start t)
    | .error e => .error e
  | [.word ['B', 'I', 'T'], .number b] =>
    match fit 1 b with
    | .ok b => .ok (.bit (b.getLsbD 0))
    | .error e => .error e
  | [.word ['R', 'A', 'W', 'F', 'R', 'A', 'M', 'E'], .number t, .comma, .number w] =>
    match fit 64 t, fit 32 w with
    | .ok t, .ok w => .ok (.rawFrame t w)
    | .error e, _ => .error e
    | _, .error e => .error e
  | [.word ['F', 'R', 'A', 'M', 'E'], .number t, .comma, .number a, .comma, .number c] =>
    match fit 64 t, fit 8 a, fit 8 c with
    | .ok t, .ok a, .ok c => .ok (.frame t a c)
    | .error e, _, _ => .error e
    | _, .error e, _ => .error e
    | _, _, .error e => .error e
  | [.word ['R', 'E', 'P', 'E', 'A', 'T'], .number t] =>
    match fit 64 t with
    | .ok t => .ok (.repeatCode t)
    | .error e => .error e
  | ts =>
    match parseOp ts with
    | .ok (o, []) => .ok (.single o)
    | .ok _ => .error .badLine
    | .error e => .error e

/-- A line's item, its label left out (R80: a label names a line and stands for no cycle). -/
def parseTokens : List Token → Except TraceError TraceItem
  | .word _ :: .colon :: rest => parseItem rest
  | ts => parseItem ts

/-- One line of a trace (R80). -/
def parseLine (line : List Char) : Except TraceError TraceItem :=
  match lex [] line with
  | .ok ts => parseTokens ts
  | .error e => .error e

/-- The lines of a trace. -/
def parseLines : List (List Char) → Except TraceError (List TraceItem)
  | [] => .ok []
  | l :: rest =>
    match parseLine l, parseLines rest with
    | .ok x, .ok xs => .ok (x :: xs)
    | .error e, _ => .error e
    | _, .error e => .error e

/-- The cycles a trace's text stands for (R80, R82). -/
def assembleTrace (p : Params) (lines : List (List Char)) : Except TraceError (List Inputs) :=
  match parseLines lines with
  | .ok items => traceCycles p items
  | .error e => .error e

end Sys2Proof.Machine
end

