-- ==== Sys2Proof/Machine/HostRecord.lean ====
section
/-! DEFINITION. The record the host forwards for each taken frame (60_exceptions R262): outside the block, a
function of the outputs of a cycle. -/

namespace Sys2Proof.Machine

open Sys2Proof

/-- `[0x00, address, command, repeated ? 1 : 0]` where the cycle returned a frame, no record where it did not (R262). -/
def hostRecord (o : Outputs) : Option (List Byte) :=
  if o.takeValid then some [0x00, o.takeAddress, o.takeCommand, if o.takeRepeated then 0x01 else 0x00]
  else none

end Sys2Proof.Machine
end

