-- ==== Sys2Proof/Safety.lean ====
section
/-! DEFINITION. What the claims speak of: the invariants of 10_state R40, the result slot's emissions
(00_scope R19), and the contracts the environment owes (60_exceptions R255, R257; 70_reset_and_hazards R283). -/

namespace Sys2Proof.Machine

open Sys2Proof

/-- The invariants of R40, items 1 to 6, and that `state` holds one of the five states (R39). -/
structure Inv (s : State) : Prop where
  /-- R39: the three other codes are never reached. -/
  legal : s.state.isLegal = true
  /-- R40 item 1 (and 5): no deadline is outstanding in Idle. -/
  idleDisarmed : s.state = .idle → s.deadlineArmed = false
  /-- R40 item 2: the indicator is on exactly outside Idle. -/
  indicatorOn : s.indicator = true ↔ s.state ≠ .idle
  /-- R40 item 3: at most 31 bits are counted in ReceiveFrame. -/
  receiveCount : s.state = .receiveFrame → s.bitCount.toNat ≤ 31
  /-- R40 item 4: the count never passes 32. -/
  countBound : s.bitCount.toNat ≤ 32
  /-- R40 item 6: a deadline is outstanding throughout WaitForStart. -/
  waitArmed : s.state = .waitForStart → s.deadlineArmed = true

/-- In ReceiveFrame the places that no bit has reached yet are 0, so the bit a shift loses is 0
(41_frame_assembly R131). -/
def LowBitsClear (s : State) : Prop :=
  s.state = .receiveFrame → s.shiftRegister.toNat % 2 ^ (32 - s.bitCount.toNat) = 0

/-- The state an EDGE of the cycle meets: Idle where the cycle's TIMEOUT is honoured and forces it, else the state
at the start (45_control R222, 43_deadline_guard R181). -/
def stateAtEdge (i : Inputs) (s : State) : DecoderState :=
  if i.timerFire ∧ s.deadlineArmed ∧
      (s.state = .waitForStart ∨ (s.params.timeoutAnyState = true ∧ s.state ≠ .idle ∧ s.state.isLegal)) then .idle
  else s.state

/-- The slot a cycle's emission leaves, if the cycle emits (00_scope R19, 40_edge_fsm R106, 41_frame_assembly R136):
a repeat code in AddressOrRepeat, or a valid frame completed in ReceiveFrame. -/
def emission (i : Inputs) (s : State) : Option DecodedFrame :=
  if i.rst ∨ ¬ i.edgeValid ∨ ¬ i.edgeLevel then none
  else
    match stateAtEdge i s with
    | .addressOrRepeat =>
      if classifyAfterStart s.params (delta s i.edgeTs) = .repeatSpace then
        some { s.frame with repeated := true }
      else none
    | .receiveFrame =>
      match classifyBit s.params (delta s i.edgeTs) with
      | .bit b =>
        let w := shiftWord s.shiftRegister b
        if s.bitCount + 1 = 32 ∧ frameValid w then
          some { address := frameAddress w, command := frameCommand w, repeated := false }
        else none
      | .noBit => none
    | .idle => none
    | .waitForStart => none
    | .waitEnd => none
    | .unreachable5 => none
    | .unreachable6 => none
    | .unreachable7 => none

/-- What a TAKE of the cycle returns to the consumer, read off the outputs (44_consumer_read R200). -/
def taken (o : Outputs) : Option DecodedFrame :=
  if o.takeValid then some { address := o.takeAddress, command := o.takeCommand, repeated := o.takeRepeated }
  else none

/-- The emissions and the taken frames of successive cycles, in their order, up to the first stop. -/
def observe : List Inputs → State → List DecodedFrame × List DecodedFrame
  | [], _ => ([], [])
  | i :: rest, s =>
    match runCycle i s with
    | .next t => ((emission i s).toList ++ (observe rest t).1, (taken t.out).toList ++ (observe rest t).2)
    | .fault _ => ([], [])
    | .refused _ => ([], [])

/-- The deadline timer service, outside the block: the time, in microseconds of the `edge_ts` clock, from which its
outstanding deadline may fire (60_exceptions R255). -/
structure TimerService where
  /-- The outstanding deadline, if there is one. -/
  due : Option Nat
deriving DecidableEq, Repr

/-- R255 items 2 to 4, the safety side: the service fires only for an outstanding deadline whose delay has elapsed. -/
def TimerService.mayFire (t : TimerService) (now : Nat) : Bool :=
  match t.due with
  | some d => decide (d ≤ now)
  | none => false

/-- The service after a cycle: reset with the block (70_reset_and_hazards R283 item 1), a fire or a cancel ends the
deadline, an arm starts one of `timer_delay_ms` milliseconds (R255 items 1, 3, 4). -/
def TimerService.afterCycle (t : TimerService) (i : Inputs) (o : Outputs) (now : Nat) : TimerService :=
  if i.rst then { due := none }
  else if o.timerArm then { due := some (now + 1000 * o.timerDelayMs.toNat) }
  else if o.timerCancel ∨ i.timerFire then { due := none }
  else t

/-- The service keeps its contract in a cycle at time `now` (R255). -/
def TimerService.keepsContract (t : TimerService) (i : Inputs) (now : Nat) : Bool :=
  !i.timerFire || t.mayFire now

/-- The edge source keeps its contract: `edge_ts` never falls from one EDGE to the next (R257, 70_reset_and_hazards R289). -/
def edgesMonotonic (last : Micros) : List Inputs → Bool
  | [] => true
  | i :: rest =>
    if i.edgeValid then decide (last ≤ i.edgeTs) && edgesMonotonic i.edgeTs rest
    else edgesMonotonic last rest

/-- The platform boots the block: the first cycle it presents is a RESET (70_reset_and_hazards R282, R283 item 2). -/
def bootsWithReset : List Inputs → Bool
  | [] => false
  | i :: _ => i.rst

/-- What two machines must share to look alike from now on, but for the baseline timestamp (10_state R41). -/
def AgreeButTimestamp (s t : State) : Prop :=
  { s with lastEdgeTimestamp := 0 } = { t with lastEdgeTimestamp := 0 }

/-- What two machines must share to look alike from now on, but for the accumulator (10_state R37). -/
def AgreeButAccumulator (s t : State) : Prop :=
  { s with shiftRegister := 0, bitCount := 0 } = { t with shiftRegister := 0, bitCount := 0 }

end Sys2Proof.Machine
end

