-- ==== Sys2Proof/Certificates/Slice0/Obligations.lean ====
section
/-! DEFINITION. The statements for the provers, one definition each, in the order of OBLIGATIONS.json. -/

open Sys2Proof Sys2Proof.Machine

/-! ### Encoding -/

/-- Words written out bit by bit from R74 and R75 (95_test_vectors 2.1, R83) decode to the operations they stand for. -/
def Obligations.SampleControlVectorsDecode : Prop :=
  decodeCycle 0b10000 0 = [.reset] ∧ decodeCycle 0b11111 7 = [.reset] ∧
  decodeCycle 0b01000 0 = [.take] ∧ decodeCycle 0b00100 0 = [.timeout] ∧
  decodeCycle 0b00011 0x3E8 = [.edgeHigh 1000] ∧ decodeCycle 0b00010 0x2710 = [.edgeLow 10000] ∧
  decodeCycle 0b00000 0 = [.nop] ∧ decodeCycle 0b00001 9 = [.nop] ∧
  decodeCycle 0b01010 0x2710 = [.take, .edgeLow 10000] ∧
  decodeCycle 0b01111 5 = [.take, .timeout, .edgeHigh 5]

/-- R75: an operation is present exactly when `(ctl & mask) = match`; an EDGE carries the cycle's `edge_ts`. -/
def Obligations.OperationPresentByMatchAndMask : Prop :=
  ∀ (ctl : Ctl) (ts : Micros) (i : Instr),
    i ∈ decodeCycle ctl ts ↔ (ctl &&& i.ctlMask = i.ctlMatch ∧ (i.isEdge = true → i.operand = ts))

/-- R76: the decoder is total, and every cycle it gives is well formed. -/
def Obligations.EveryCycleDecodesWellFormed : Prop :=
  ∀ (ctl : Ctl) (ts : Micros), cycleWellFormed (decodeCycle ctl ts) = true

/-- Decode and encode agree on every well-formed cycle, through the model's nine bytes (log entry 4). -/
def Obligations.EncodedCycleDecodesBack : Prop :=
  ∀ (ops : List Instr) (rest : List Byte), cycleWellFormed ops = true →
    decodeBytes (encodeBytes ops ++ rest) = .ok (ops, rest)

/-- R78: no control vector is illegal, and three groups of input bits are ignored. -/
def Obligations.IgnoredInputBitsMakeNoDifference : Prop :=
  (∀ (i : Inputs) (s : State), ∃ t, runCycle i s = .next t) ∧
  (∀ (i : Inputs) (s : State) (lvl : Bool) (ts : Micros), i.edgeValid = false →
    runCycle { i with edgeLevel := lvl, edgeTs := ts } s = runCycle i s) ∧
  (∀ (i j : Inputs) (s : State), i.rst = true → j.rst = true → runCycle i s = runCycle j s) ∧
  (∀ (i : Inputs) (s : State), i.rst = false → s.deadlineArmed = false →
    .timeout ∈ opsOfInputs { i with timerFire := true } ∧
    runCycle { i with timerFire := true } s = runCycle { i with timerFire := false } s)

/-! ### Reset and NOP -/

/-- R38: the values after RESET. -/
def Obligations.ResetStateHoldsTheResetValues : Prop :=
  State.reset.state = .idle ∧ State.reset.lastEdgeTimestamp = 0 ∧ State.reset.shiftRegister = 0x00000000 ∧
  State.reset.bitCount = 0 ∧ State.reset.deadlineArmed = false ∧ State.reset.hasUnreadFrame = false ∧
  State.reset.frame.address = 0x00 ∧ State.reset.frame.command = 0x00 ∧ State.reset.frame.repeated = false ∧
  State.reset.indicator = false

/-- R221: RESET writes every register; in its cycle every other strobe is dropped, every pulse is 0, `take_valid` is 0
and the level outputs show the registers from before the reset. -/
def Obligations.ResetWritesEveryRegister : Prop :=
  (∀ s : State, exec .reset s = .next
    { s with
      state := .idle, lastEdgeTimestamp := 0, shiftRegister := 0x00000000, bitCount := 0, deadlineArmed := false,
      hasUnreadFrame := false, frame := { address := 0x00, command := 0x00, repeated := false },
      indicator := false }) ∧
  (∀ (i : Inputs) (s : State), i.rst = true →
    runCycle i s = .next
      { s with
        state := .idle, lastEdgeTimestamp := 0, shiftRegister := 0x00000000, bitCount := 0, deadlineArmed := false,
        hasUnreadFrame := false, frame := { address := 0x00, command := 0x00, repeated := false },
        indicator := false
        out :=
          { takeValid := false, takeAddress := s.frame.address, takeCommand := s.frame.command,
            takeRepeated := s.frame.repeated, timerArm := false, timerDelayMs := s.params.deadlineMs,
            timerCancel := false, indicator := s.indicator, framePending := s.hasUnreadFrame,
            diagValid := false, diagCode := 0, diagDelta := 0 } })

/-- R220: NOP does nothing; a cycle with no strobe writes no register of a machine in a legal state, and drives no pulse. -/
def Obligations.NopCycleChangesNoRegister : Prop :=
  (∀ s : State, exec .nop s = .next s) ∧
  (∀ (i : Inputs) (s : State), i.rst = false → i.takeReq = false → i.timerFire = false → i.edgeValid = false →
    s.state.isLegal = true →
    opsOfInputs i = [.nop] ∧
    runCycle i s = .next
      { s with
        out :=
          { takeValid := false, takeAddress := s.frame.address, takeCommand := s.frame.command,
            takeRepeated := s.frame.repeated, timerArm := false, timerDelayMs := s.params.deadlineMs,
            timerCancel := false, indicator := s.indicator, framePending := s.hasUnreadFrame,
            diagValid := false, diagCode := 0, diagDelta := 0 } })

/-! ### TAKE and the result slot -/

/-- R200: TAKE shows the flag and the slot on the `take_*` ports and clears the flag, and writes nothing else. -/
def Obligations.TakeShowsSlotAndClearsFlag : Prop :=
  ∀ s : State, exec .take s = .next
    { s with
      hasUnreadFrame := false
      out := { s.out with
        takeValid := s.hasUnreadFrame, takeAddress := s.frame.address, takeCommand := s.frame.command,
        takeRepeated := s.frame.repeated } }

/-- R202, R58: in every cycle the `take_*` data show the frame registers as they stood at its start, and `take_valid` is 1
exactly in a TAKE cycle that found the flag set. -/
def Obligations.TakeOutputsShowTheSlotAtTheStart : Prop :=
  ∀ (i : Inputs) (s : State), ∃ t, runCycle i s = .next t ∧
    t.out.takeAddress = s.frame.address ∧ t.out.takeCommand = s.frame.command ∧
    t.out.takeRepeated = s.frame.repeated ∧
    t.out.takeValid = (!i.rst && i.takeReq && s.hasUnreadFrame)

/-- R203: a TAKE returns the slot from before an emission of its cycle, the set wins over the clear, and the slot's payload
changes by an emission only. -/
def Obligations.EmissionWinsOverTake : Prop :=
  ∀ (i : Inputs) (s : State), i.rst = false → ∃ t, runCycle i s = .next t ∧
    (i.takeReq = true → t.out.takeValid = s.hasUnreadFrame ∧ t.out.takeAddress = s.frame.address ∧
      t.out.takeCommand = s.frame.command ∧ t.out.takeRepeated = s.frame.repeated) ∧
    t.hasUnreadFrame = (if (emission i s).isSome then true else if i.takeReq then false else s.hasUnreadFrame) ∧
    t.frame = (emission i s).getD s.frame

/-- R59, R60 item 4: with no emission, a slot whose flag is clear gives no TAKE a result. -/
def Obligations.NoResultWithoutEmission : Prop :=
  ∀ (is : List Inputs) (s : State), s.hasUnreadFrame = false → (observe is s).1 = [] → (observe is s).2 = []

/-- R60: what TAKEs return is, in order and each at most once, what was pending at the start and then the emissions. -/
def Obligations.TakenFramesAreEmissionsInOrder : Prop :=
  ∀ (is : List Inputs) (s : State),
    List.Sublist (observe is s).2 ((if s.hasUnreadFrame then [s.frame] else []) ++ (observe is s).1)

/-! ### TIMEOUT -/

/-- R183: a stale fire changes nothing and raises nothing. -/
def Obligations.StaleFireChangesNothing : Prop :=
  ∀ s : State, s.deadlineArmed = false → exec .timeout s = .next s

/-- R181, R182: a stale fire does nothing; an honoured fire consumes the deadline; it forces Idle with StartTimeout and no cancel in WaitForStart, and
with TIMEOUT_ANY_STATE in every legal state but Idle; in every other legal state it only consumes the deadline. -/
def Obligations.HonouredFireConsumesTheDeadline : Prop :=
  (∀ s : State, s.deadlineArmed = false → exec .timeout s = .next s) ∧
  ∀ s : State, s.state.isLegal = true → s.deadlineArmed = true →
    (s.state = .waitForStart ∨ (s.params.timeoutAnyState = true ∧ s.state ≠ .idle) →
      exec .timeout s = .next
        { s with
          state := .idle, indicator := false, deadlineArmed := false
          out := { s.out with diagValid := true, diagCode := 5, diagDelta := 0 } }) ∧
    (¬ (s.state = .waitForStart ∨ (s.params.timeoutAnyState = true ∧ s.state ≠ .idle)) →
      exec .timeout s = .next { s with deadlineArmed := false })

/-- R186: after a fire in WaitForStart the machine is in Idle with nothing outstanding, and the next HIGH edge arms afresh. -/
def Obligations.TimeoutRecoversToAFreshStart : Prop :=
  ∀ s : State, Inv s → s.state = .waitForStart →
    ∃ t, runCycle (encode .timeout) s = .next t ∧ t.state = .idle ∧ t.deadlineArmed = false ∧
      t.indicator = false ∧ t.out.diagCode = 5 ∧ t.out.timerCancel = false ∧
      ∀ ts : Micros, ∃ u, runCycle (encode (.edgeHigh ts)) t = .next u ∧ u.state = .waitForStart ∧
        u.deadlineArmed = true ∧ u.indicator = true ∧ u.out.timerArm = true ∧ u.lastEdgeTimestamp = ts

/-- R184, R185: what entering WaitForStart and entering Idle write and pulse. -/
def Obligations.EntryActionsArmAndCancel : Prop :=
  ∀ s : State,
    enterWaitForStart s =
      { s with
        state := .waitForStart, indicator := true, deadlineArmed := true
        out := { s.out with timerArm := true, timerDelayMs := s.params.deadlineMs } } ∧
    (s.deadlineArmed = true →
      enterIdle s =
        { s with
          state := .idle, indicator := false, deadlineArmed := false
          out := { s.out with timerCancel := true } }) ∧
    (s.deadlineArmed = false → enterIdle s = { s with state := .idle, indicator := false })

/-! ### EDGE, one statement per kind of cell of the state table -/

/-- R102: a HIGH edge in Idle arms the deadline and enters WaitForStart, whatever its Δ. -/
def Obligations.IdleHighEntersWaitForStart : Prop :=
  ∀ (s : State) (ts : Micros), s.state = .idle →
    exec (.edgeHigh ts) s = .next
      { s with
        state := .waitForStart, indicator := true, deadlineArmed := true, lastEdgeTimestamp := ts
        out := { s.out with timerArm := true, timerDelayMs := s.params.deadlineMs } }

/-- R103, R109, R110: these edges write `lastEdgeTimestamp` and nothing else, whatever their Δ. -/
def Obligations.IgnoredEdgesMoveOnlyTheBaseline : Prop :=
  ∀ (s : State) (ts : Micros),
    (s.state = .idle → exec (.edgeLow ts) s = .next { s with lastEdgeTimestamp := ts }) ∧
    (s.state = .receiveFrame → exec (.edgeLow ts) s = .next { s with lastEdgeTimestamp := ts }) ∧
    (s.state = .waitEnd → exec (.edgeHigh ts) s = .next { s with lastEdgeTimestamp := ts })

/-- R104, R107: the wrong level while a start is awaited is InvalidStartLevel: Idle, indicator off, a cancel if a deadline is
outstanding. -/
def Obligations.WrongLevelBeforeAFrameEntersIdle : Prop :=
  ∀ (s : State) (ts : Micros),
    (s.state = .waitForStart →
      exec (.edgeHigh ts) s = .next
        { s with
          state := .idle, indicator := false, deadlineArmed := false, lastEdgeTimestamp := ts
          out := { s.out with
            diagValid := true, diagCode := 1, diagDelta := ts - s.lastEdgeTimestamp,
            timerCancel := s.deadlineArmed || s.out.timerCancel } }) ∧
    (s.state = .addressOrRepeat →
      exec (.edgeLow ts) s = .next
        { s with
          state := .idle, indicator := false, deadlineArmed := false, lastEdgeTimestamp := ts
          out := { s.out with
            diagValid := true, diagCode := 1, diagDelta := ts - s.lastEdgeTimestamp,
            timerCancel := s.deadlineArmed || s.out.timerCancel } })

/-- R105: the LOW edge that ends the start mark, in or out of its window; the deadline stays armed where it is in. -/
def Obligations.StartMarkIsCheckedInWaitForStart : Prop :=
  ∀ (s : State) (ts : Micros), s.state = .waitForStart →
    (isStartMark s.params (ts - s.lastEdgeTimestamp) = true →
      exec (.edgeLow ts) s = .next { s with state := .addressOrRepeat, lastEdgeTimestamp := ts }) ∧
    (isStartMark s.params (ts - s.lastEdgeTimestamp) = false →
      exec (.edgeLow ts) s = .next
        { s with
          state := .idle, indicator := false, deadlineArmed := false, lastEdgeTimestamp := ts
          out := { s.out with
            diagValid := true, diagCode := 2, diagDelta := ts - s.lastEdgeTimestamp,
            timerCancel := s.deadlineArmed || s.out.timerCancel } })

/-- R106, R142: the HIGH edge after the start mark begins a frame with a cleared accumulator, emits a repeat that keeps the
payload, or is ignored; no diagnostic in any case. -/
def Obligations.SpaceAfterStartMarkSelectsFrameOrRepeat : Prop :=
  ∀ (s : State) (ts : Micros), s.state = .addressOrRepeat →
    (classifyAfterStart s.params (ts - s.lastEdgeTimestamp) = .frameSpace →
      exec (.edgeHigh ts) s = .next
        { s with state := .receiveFrame, shiftRegister := 0x00000000, bitCount := 0, lastEdgeTimestamp := ts }) ∧
    (classifyAfterStart s.params (ts - s.lastEdgeTimestamp) = .repeatSpace →
      exec (.edgeHigh ts) s = .next
        { s with
          state := .waitEnd, hasUnreadFrame := true, lastEdgeTimestamp := ts
          frame := { address := s.frame.address, command := s.frame.command, repeated := true } }) ∧
    (classifyAfterStart s.params (ts - s.lastEdgeTimestamp) = .noMatch →
      exec (.edgeHigh ts) s = .next { s with lastEdgeTimestamp := ts })

/-- R108, R131, R132: a HIGH edge in ReceiveFrame whose Δ is in no bit window is InvalidBitTiming, the partial frame kept
unread; a valid bit short of the 32nd is shifted in and counted. -/
def Obligations.BitSpacesAreShiftedInOrRejected : Prop :=
  ∀ (s : State) (ts : Micros), s.state = .receiveFrame →
    (classifyBit s.params (ts - s.lastEdgeTimestamp) = .noBit →
      exec (.edgeHigh ts) s = .next
        { s with
          state := .idle, indicator := false, deadlineArmed := false, lastEdgeTimestamp := ts
          out := { s.out with
            diagValid := true, diagCode := 3, diagDelta := ts - s.lastEdgeTimestamp,
            timerCancel := s.deadlineArmed || s.out.timerCancel } }) ∧
    (∀ b : Bool, classifyBit s.params (ts - s.lastEdgeTimestamp) = .bit b → s.bitCount + 1 ≠ 32 →
      exec (.edgeHigh ts) s = .next
        { s with
          shiftRegister := (s.shiftRegister >>> 1) ||| ((BitVec.ofBool b).setWidth 32 <<< 31)
          bitCount := s.bitCount + 1, lastEdgeTimestamp := ts })

/-- R108, R136, R140: the 32nd valid bit emits the frame where both complements hold, and raises ChecksumMismatch and leaves the
result slot alone where one fails; it enters WaitEnd regardless of validity. -/
def Obligations.LastBitCompletesTheFrame : Prop :=
  ∀ (s : State) (ts : Micros) (b : Bool), s.state = .receiveFrame → s.bitCount + 1 = 32 →
    classifyBit s.params (ts - s.lastEdgeTimestamp) = .bit b →
    ∀ w : FrameWord, w = (s.shiftRegister >>> 1) ||| ((BitVec.ofBool b).setWidth 32 <<< 31) →
    (w.extractLsb' 16 8 + w.extractLsb' 24 8 = 0xFF ∧ w.extractLsb' 0 8 + w.extractLsb' 8 8 = 0xFF →
      exec (.edgeHigh ts) s = .next
        { s with
          state := .waitEnd, shiftRegister := w, bitCount := 32, lastEdgeTimestamp := ts, hasUnreadFrame := true
          frame := { address := w.extractLsb' 0 8, command := w.extractLsb' 16 8, repeated := false } }) ∧
    (¬ (w.extractLsb' 16 8 + w.extractLsb' 24 8 = 0xFF ∧ w.extractLsb' 0 8 + w.extractLsb' 8 8 = 0xFF) →
      exec (.edgeHigh ts) s = .next
        { s with
          state := .waitEnd, shiftRegister := w, bitCount := 32, lastEdgeTimestamp := ts
          out := { s.out with diagValid := true, diagCode := 4, diagDelta := ts - s.lastEdgeTimestamp } })

/-- R111: the LOW edge in WaitEnd enters Idle, with a cancel if a deadline is outstanding and no timing check. -/
def Obligations.WaitEndLowEntersIdle : Prop :=
  ∀ (s : State) (ts : Micros), s.state = .waitEnd →
    exec (.edgeLow ts) s = .next
      { s with
        state := .idle, indicator := false, deadlineArmed := false, lastEdgeTimestamp := ts
        out := { s.out with timerCancel := s.deadlineArmed || s.out.timerCancel } }

/-- R101, R23: every EDGE of a cycle in a legal state leaves its timestamp as the baseline, whatever else happens; a cycle with
neither EDGE nor RESET leaves the baseline alone. -/
def Obligations.EveryEdgeMovesTheBaseline : Prop :=
  ∀ (i : Inputs) (s : State), i.rst = false → ∃ t, runCycle i s = .next t ∧
    (i.edgeValid = true → s.state.isLegal = true → t.lastEdgeTimestamp = i.edgeTs) ∧
    (i.edgeValid = false → t.lastEdgeTimestamp = s.lastEdgeTimestamp)

/-! ### Frames -/

/-- What each operation leaves unchanged (10_state R23 to R31 say who writes each register). Only RESET and EDGEs write
`lastEdgeTimestamp` (R23); only RESET and EDGE_HIGH write the accumulator and the payload (R24, R25, R28 to R30); only RESET, TAKE and
EDGE_HIGH write the flag (R27); NOP and TAKE write neither `state` nor `deadlineArmed` nor `indicator` (R220, R200). Of the ports, only
TAKE drives `take_*` (R200); only an EDGE drives `timer_arm`, `timer_delay_ms` or `timer_cancel` (R225), and EDGE_LOW only
`timer_cancel`, since only Idle, HIGH arms (R184); only TIMEOUT and EDGEs drive the diagnostic port (R241); no operation drives the
level outputs (R72). None writes the parameters (R42), nor the model's own fields `pending` and `freeDraws`: these two clauses
are the model's choice (log entry 2). -/
def Obligations.OperationsWriteOnlyTheirRegisters : Prop :=
  ∀ (i : Instr) (s : State), ∃ t, exec i s = .next t ∧
    t.params = s.params ∧ t.pending = s.pending ∧ t.freeDraws = s.freeDraws ∧
    t.out.indicator = s.out.indicator ∧ t.out.framePending = s.out.framePending ∧
    (i ≠ .take → t.out.takeValid = s.out.takeValid ∧ t.out.takeAddress = s.out.takeAddress ∧
      t.out.takeCommand = s.out.takeCommand ∧ t.out.takeRepeated = s.out.takeRepeated) ∧
    (i.isEdge = false → t.out.timerCancel = s.out.timerCancel) ∧
    ((∀ ts, i ≠ .edgeHigh ts) → t.out.timerArm = s.out.timerArm ∧ t.out.timerDelayMs = s.out.timerDelayMs) ∧
    (i = .reset ∨ i = .take ∨ i = .nop →
      t.out.diagValid = s.out.diagValid ∧ t.out.diagCode = s.out.diagCode ∧ t.out.diagDelta = s.out.diagDelta) ∧
    (i ≠ .reset → i.isEdge = false → t.lastEdgeTimestamp = s.lastEdgeTimestamp) ∧
    (i ≠ .reset → (∀ ts, i ≠ .edgeHigh ts) →
      t.shiftRegister = s.shiftRegister ∧ t.bitCount = s.bitCount ∧ t.frame = s.frame) ∧
    (i ≠ .reset → i ≠ .take → (∀ ts, i ≠ .edgeHigh ts) → t.hasUnreadFrame = s.hasUnreadFrame) ∧
    (i = .nop ∨ i = .take → t.state = s.state ∧ t.deadlineArmed = s.deadlineArmed ∧ t.indicator = s.indicator)

/-- R242: a cycle that reports an error leaves the payload alone and sets no flag, and the consumer's ports show the slot as
without it. -/
def Obligations.ErrorsNeverTouchTheResultSlot : Prop :=
  ∀ (i : Inputs) (s t : State), runCycle i s = .next t → t.out.diagValid = true →
    t.frame = s.frame ∧ t.hasUnreadFrame = (!i.takeReq && s.hasUnreadFrame) ∧
    t.out.takeValid = (i.takeReq && s.hasUnreadFrame) ∧ t.out.takeAddress = s.frame.address ∧
    t.out.takeCommand = s.frame.command ∧ t.out.takeRepeated = s.frame.repeated ∧
    t.out.framePending = s.hasUnreadFrame

/-! ### The cycle -/

/-- A step is the cycle whose inputs are placed first; where none is placed, the cycle of a free input (log entry 2). -/
def Obligations.StepPerformsTheNextCycle : Prop :=
  (∀ (s : State) (i : Inputs) (rest : List Inputs), s.pending = i :: rest →
    step s = runCycle i { s with pending := rest }) ∧
  (∀ s : State, s.pending = [] →
    step s = runCycle (Config.freeInputs s.freeDraws) { s with freeDraws := s.freeDraws + 1 })

/-- Where the coming cycle's ports decode to one operation, the step is the default outputs, exec of that operation, and the
recovery from an unreachable state. The model's choices in it: where the inputs come from (`nextInputs`, `afterSampling`: log entry 2,
DESIGN CHOICE), and that exec runs in an unreachable state too, with the recovery after it (log entry 6, DEDUCED: R222 tests `state`
first and performs TAKE alone there; CycleFollowsTheFixedOrder states that form). -/
def Obligations.StepRunsTheDecodedOperation : Prop :=
  ∀ (s : State) (i : Instr), opsOfInputs (nextInputs s) = [i] →
    step s =
      match exec i (beginCycle (afterSampling s)) with
      | .next t => .next (recoverUnreachable t)
      | .fault r => .fault r
      | .refused r => .refused r

/-- R222: the cycle as the rule writes it. -/
def Obligations.CycleFollowsTheFixedOrder : Prop :=
  ∀ (i : Inputs) (s s0 sTake sTimeout : State),
    s0 = { s with
      out :=
        { takeValid := false, takeAddress := s.frame.address, takeCommand := s.frame.command,
          takeRepeated := s.frame.repeated, timerArm := false, timerDelayMs := s.params.deadlineMs,
          timerCancel := false, indicator := s.indicator, framePending := s.hasUnreadFrame,
          diagValid := false, diagCode := 0, diagDelta := 0 } } →
    (if i.takeReq then exec .take s0 else .next s0) = .next sTake →
    (if i.timerFire then exec .timeout sTake else .next sTake) = .next sTimeout →
    runCycle i s =
      if i.rst then exec .reset s0
      else if s.state.isLegal = false then
        .next { sTake with state := .idle, indicator := false, deadlineArmed := false }
      else if i.edgeValid then
        (if i.edgeLevel then exec (.edgeHigh i.edgeTs) sTimeout else exec (.edgeLow i.edgeTs) sTimeout)
      else .next sTimeout

/-- R39: a legal state is never left for an unreachable code, and a machine in one recovers in its next cycle without RESET: TAKE
still answers, every other strobe is ignored, no `timer_cancel`. -/
def Obligations.UnreachableStatesRecoverInOneCycle : Prop :=
  State.reset.state.isLegal = true ∧
  (∀ (i : Inputs) (s t : State), s.state.isLegal = true → runCycle i s = .next t → t.state.isLegal = true) ∧
  (∀ (i : Inputs) (s : State), s.state.isLegal = false → i.rst = false →
    runCycle i s = .next
      { s with
        state := .idle, indicator := false, deadlineArmed := false
        hasUnreadFrame := !i.takeReq && s.hasUnreadFrame
        out :=
          { takeValid := i.takeReq && s.hasUnreadFrame, takeAddress := s.frame.address,
            takeCommand := s.frame.command, takeRepeated := s.frame.repeated, timerArm := false,
            timerDelayMs := s.params.deadlineMs, timerCancel := false, indicator := s.indicator,
            framePending := s.hasUnreadFrame, diagValid := false, diagCode := 0, diagDelta := 0 } })

/-- R223: at most one diagnostic in a cycle: an EDGE after a TIMEOUT that raised one raises none, and no other operation raises any. -/
def Obligations.OneDiagnosticPerCycle : Prop :=
  (∀ (s t u : State) (ts : Micros), s.out.diagValid = false → exec .timeout s = .next t → t.out.diagValid = true →
    (exec (.edgeHigh ts) t = .next u ∨ exec (.edgeLow ts) t = .next u) →
    u.out.diagValid = t.out.diagValid ∧ u.out.diagCode = t.out.diagCode ∧ u.out.diagDelta = t.out.diagDelta) ∧
  (∀ (i : Instr) (s t : State), i = .take ∨ i = .nop ∨ i = .reset → exec i s = .next t →
    t.out.diagValid = s.out.diagValid ∧ t.out.diagCode = s.out.diagCode ∧ t.out.diagDelta = s.out.diagDelta) ∧
  (∀ i : Inputs, (opsOfInputs i).countP Instr.isEdge ≤ 1)

/-- R224: at most one emission in a cycle: only an EDGE writes the payload or sets the flag, and a cycle has at most one EDGE. -/
def Obligations.OneEmissionPerCycle : Prop :=
  (∀ (i : Instr) (s t : State), i ≠ .reset → i.isEdge = false → exec i s = .next t →
    t.frame = s.frame ∧ (t.hasUnreadFrame = true → s.hasUnreadFrame = true)) ∧
  (∀ i : Inputs, (opsOfInputs i).countP Instr.isEdge ≤ 1)

/-- R225: at most one `timer_arm` and at most one `timer_cancel` in a cycle, and never both: only an EDGE pulses either. -/
def Obligations.NeverArmAndCancelInOneCycle : Prop :=
  (∀ (i : Inputs) (s t : State), runCycle i s = .next t → ¬ (t.out.timerArm = true ∧ t.out.timerCancel = true)) ∧
  (∀ (i : Instr) (s t : State), i.isEdge = false → exec i s = .next t →
    t.out.timerArm = s.out.timerArm ∧ t.out.timerCancel = s.out.timerCancel) ∧
  (∀ i : Inputs, (opsOfInputs i).countP Instr.isEdge ≤ 1)

/-- R244: the interval a diagnostic reports. R241: the codes a cycle can drive and the state each leaves. That a cycle with code 5 may
end in WaitForStart is an inference from R222: a HIGH edge of the same cycle comes after the TIMEOUT and leaves Idle again. -/
def Obligations.DiagnosticsReportCodeAndInterval : Prop :=
  ∀ (i : Inputs) (s t : State), runCycle i s = .next t →
    (t.out.diagValid = false → t.out.diagCode = 0 ∧ t.out.diagDelta = 0) ∧
    (t.out.diagValid = true →
      (t.out.diagCode = 1 ∨ t.out.diagCode = 2 ∨ t.out.diagCode = 3 ∨ t.out.diagCode = 4 ∨ t.out.diagCode = 5) ∧
      (t.out.diagCode = 5 → t.out.diagDelta = 0) ∧
      (t.out.diagCode ≠ 5 → t.out.diagDelta = i.edgeTs - s.lastEdgeTimestamp) ∧
      (t.out.diagCode = 1 ∨ t.out.diagCode = 2 ∨ t.out.diagCode = 3 → t.state = .idle) ∧
      (t.out.diagCode = 4 → t.state = .waitEnd) ∧
      (t.out.diagCode = 5 → t.state = .idle ∨ (t.state = .waitForStart ∧ i.edgeValid = true ∧ i.edgeLevel = true)))

/-- R72: the level outputs show the registers at the start of the cycle, so a change shows in the next; the delay port shows
DEADLINE_MS always; a cycle with neither EDGE nor TIMEOUT drives no pulse. -/
def Obligations.LevelOutputsLagOneCycle : Prop :=
  ∀ (i : Inputs) (s : State), ∃ t, runCycle i s = .next t ∧
    t.out.indicator = s.indicator ∧ t.out.framePending = s.hasUnreadFrame ∧
    t.out.timerDelayMs = s.params.deadlineMs ∧
    (i.rst = true ∨ (i.edgeValid = false ∧ i.timerFire = false) →
      t.out.timerArm = false ∧ t.out.timerCancel = false ∧ t.out.diagValid = false)

/-! ### Timing windows -/

/-- R161: the window test is the symmetric absolute difference over the integers. -/
def Obligations.WindowIsAbsoluteDifference : Prop :=
  ∀ (d : Micros) (target tol : Nat), inRange d target tol = true ↔ |(d.toNat : Int) - (target : Int)| ≤ (tol : Int)

/-- R162: the five default windows, bounds inclusive. -/
def Obligations.DefaultWindowBounds : Prop :=
  ∀ d : Micros,
    (isStartMark Params.default d = true ↔ 8500 ≤ d.toNat ∧ d.toNat ≤ 9500) ∧
    (isFrameSpace Params.default d = true ↔ 4000 ≤ d.toNat ∧ d.toNat ≤ 5000) ∧
    (isRepeatSpace Params.default d = true ↔ 1750 ≤ d.toNat ∧ d.toNat ≤ 2750) ∧
    (classifyBit Params.default d = .bit false ↔ 250 ≤ d.toNat ∧ d.toNat ≤ 750) ∧
    (classifyBit Params.default d = .bit true ↔ 1350 ≤ d.toNat ∧ d.toNat ≤ 1850)

/-- R163 to R165: each window of every build is `inRange` with that build's own target and tolerance. R166, R167: the order in which
the windows are tested. -/
def Obligations.ClassifiersTestInOrder : Prop :=
  ∀ (p : Params) (d : Micros),
    isStartMark p d = inRange d p.startMarkUs p.longTolUs ∧
    isFrameSpace p d = inRange d p.startSpaceUs p.longTolUs ∧
    isRepeatSpace p d = inRange d p.repeatSpaceUs p.longTolUs ∧
    (classifyAfterStart p d = .frameSpace ↔ isFrameSpace p d = true) ∧
    (classifyAfterStart p d = .repeatSpace ↔ isFrameSpace p d = false ∧ isRepeatSpace p d = true) ∧
    (classifyAfterStart p d = .noMatch ↔ isFrameSpace p d = false ∧ isRepeatSpace p d = false) ∧
    (classifyBit p d = .bit false ↔ inRange d p.bit0SpaceUs p.bitTolUs = true) ∧
    (classifyBit p d = .bit true ↔
      inRange d p.bit0SpaceUs p.bitTolUs = false ∧ inRange d p.bit1SpaceUs p.bitTolUs = true) ∧
    (classifyBit p d = .noBit ↔
      inRange d p.bit0SpaceUs p.bitTolUs = false ∧ inRange d p.bit1SpaceUs p.bitTolUs = false)

/-- R13: parameters that meet its conditions make the classes disjoint, so the order of the tests changes nothing; the defaults
meet them. -/
def Obligations.ParameterConditionsMakeWindowsDisjoint : Prop :=
  Params.default.wellFormed = true ∧
  ∀ (p : Params) (d : Micros), p.wellFormed = true →
    ¬ (inRange d p.bit0SpaceUs p.bitTolUs = true ∧ inRange d p.bit1SpaceUs p.bitTolUs = true) ∧
    ¬ (isFrameSpace p d = true ∧ isRepeatSpace p d = true)

/-- R160, R170: Δ is modulo 2^64; a timestamp that goes back wraps, and with the default windows it then matches none unless it is
within 9500 of a whole turn; an equal timestamp matches none. -/
def Obligations.BackwardTimestampsMatchNoWindow : Prop :=
  ∀ (s : State) (ts : Micros),
    (s.lastEdgeTimestamp.toNat ≤ ts.toNat → (delta s ts).toNat = ts.toNat - s.lastEdgeTimestamp.toNat) ∧
    (ts.toNat < s.lastEdgeTimestamp.toNat →
      (delta s ts).toNat = 2 ^ 64 - (s.lastEdgeTimestamp.toNat - ts.toNat)) ∧
    (ts.toNat ≤ s.lastEdgeTimestamp.toNat → s.lastEdgeTimestamp.toNat - ts.toNat < 2 ^ 64 - 9500 →
      isStartMark Params.default (delta s ts) = false ∧
      classifyAfterStart Params.default (delta s ts) = .noMatch ∧
      classifyBit Params.default (delta s ts) = .noBit)

/-! ### The accumulator and the checksum -/

/-- R131, R132: the new bit stands at bit 31, every other bit one place lower, and the count rises by one. -/
def Obligations.ShiftInPlacesTheNewBitAtTheTop : Prop :=
  ∀ (s : State) (b : Bool),
    (shiftIn b s).shiftRegister.getLsbD 31 = b ∧
    (∀ k : Nat, k < 31 → (shiftIn b s).shiftRegister.getLsbD k = s.shiftRegister.getLsbD (k + 1)) ∧
    (shiftIn b s).bitCount = s.bitCount + 1

/-- R137: after 32 bits, received bit k stands at bit k: the bytes arrive as address, addressInverse, command, commandInverse, each
least significant bit first. -/
def Obligations.ReceivedBitKStandsAtBitK : Prop :=
  ∀ (bits : List Bool) (s : State), bits.length = 32 →
    ∀ t : State, t = bits.foldl (fun u b => shiftIn b u) s →
    (∀ k : Nat, k < 32 → t.shiftRegister.getLsbD k = bits.getD k false) ∧
    (∀ k : Nat, k < 8 →
      (frameAddress t.shiftRegister).getLsbD k = bits.getD k false ∧
      (frameAddressInverse t.shiftRegister).getLsbD k = bits.getD (8 + k) false ∧
      (frameCommand t.shiftRegister).getLsbD k = bits.getD (16 + k) false ∧
      (frameCommandInverse t.shiftRegister).getLsbD k = bits.getD (24 + k) false)

/-- R133: the four fields are the concrete bit ranges; together they are the whole register. -/
def Obligations.FieldsAreTheConcreteBitRanges : Prop :=
  ∀ w : FrameWord,
    frameCommandInverse w ++ frameCommand w ++ frameAddressInverse w ++ frameAddress w = w

/-- R135: two bytes sum to 0xFF modulo 256 exactly when one is the complement of the other, so validation accepts exactly the frames whose inverses are the bitwise complements. -/
def Obligations.ValidationAcceptsExactlyComplements : Prop :=
  (∀ x y : Byte, x + y = 0xFF ↔ y = ~~~x) ∧
  (∀ w : FrameWord,
    frameValid w = true ↔
      frameAddressInverse w = ~~~(frameAddress w) ∧ frameCommandInverse w = ~~~(frameCommand w))

/-! ### Invariants -/

/-- The reset state meets the invariants (R38, R40, R131). -/
def Obligations.ResetStateMeetsTheInvariants : Prop :=
  Inv State.reset ∧ LowBitsClear State.reset

/-- R40 items 1 to 6: every step keeps the invariants, whatever its inputs and parameters. -/
def Obligations.EveryStepKeepsTheInvariants : Prop :=
  ∀ s t : State, Inv s → step s = .next t → Inv t

/-- R131: every step keeps the places clear that no bit of the frame has reached, so the bit a shift loses is 0. -/
def Obligations.EveryStepKeepsUnreachedBitsClear : Prop :=
  ∀ s t : State, Inv s → LowBitsClear s → step s = .next t → LowBitsClear t

/-- R240, R76: every step answers a next state: no input and no error stops the block. -/
def Obligations.EveryStepAnswersANextState : Prop :=
  ∀ s : State, ∃ t : State, step s = .next t ∧ t.params = s.params

/-- R40 item 7, R183, R255: in a legal state, under the timer service's contract, `deadlineArmed` says exactly whether a deadline
is outstanding at the service, cycle after cycle; no fire is then stale. -/
def Obligations.DeadlineBitAgreesWithTheTimerService : Prop :=
  ∀ (i : Inputs) (s t : State) (svc : TimerService) (now : Nat), s.state.isLegal = true →
    (svc.due.isSome = s.deadlineArmed) → svc.keepsContract i now = true → runCycle i s = .next t →
    ((svc.afterCycle i t.out now).due.isSome = t.deadlineArmed) ∧
    (i.timerFire = true → s.deadlineArmed = true)

/-- R41: in Idle the baseline timestamp makes no difference to anything but itself, and none at all once an edge has come. -/
def Obligations.BaselineIsUnobservableInIdle : Prop :=
  ∀ (i : Inputs) (s t : State), s.state = .idle → AgreeButTimestamp s t →
    ∃ s' t', runCycle i s = .next s' ∧ runCycle i t = .next t' ∧ AgreeButTimestamp s' t' ∧
      (i.edgeValid = true ∨ i.rst = true → s' = t') ∧ (s'.state ≠ .idle → s' = t')

/-- R37: outside ReceiveFrame the accumulator makes no difference to anything but itself, and none once ReceiveFrame is entered. -/
def Obligations.AccumulatorIsUnobservableOutsideReceiveFrame : Prop :=
  ∀ (i : Inputs) (s t : State), s.state ≠ .receiveFrame → AgreeButAccumulator s t →
    ∃ s' t', runCycle i s = .next s' ∧ runCycle i t = .next t' ∧ AgreeButAccumulator s' t' ∧
      (s'.state = .receiveFrame → s' = t')

/-! ### Whole input sequences of the protocol -/

/-- R82, R112: a full frame is 68 cycles and a repeat code 4. -/
def Obligations.ProtocolSequenceLengths : Prop :=
  ∀ (p : Params) (t : Micros) (w : FrameWord),
    (∃ is, traceCycles p [.rawFrame t w] = .ok is ∧ is.length = 68) ∧
    (∃ is, traceCycles p [.repeatCode t] = .ok is ∧ is.length = 4)

/-- R112, R136, R137: the 68 edges of any 32-bit word, with parameters that meet R13 and no deadline fire, take the machine from Idle
to Idle with the word in the shift register; the slot holds its address and command, new, where the word passes validation, and is
untouched where it fails. Where an edge's time passes 2^64 it wraps: the model's choice (log entry 18). -/
def Obligations.FullFrameDecodesItsWord : Prop :=
  ∀ (s : State) (t : Micros) (w : FrameWord), s.state = .idle → s.params.wellFormed = true →
    s.params.startMarkUs < 2 ^ 64 → s.params.startSpaceUs < 2 ^ 64 → s.params.bit1SpaceUs < 2 ^ 64 →
    ∃ is u, traceCycles s.params [.rawFrame t w] = .ok is ∧
      Host.Core.run Sys2Proof.core is.length (present is s) = .next u ∧
      u.state = .idle ∧ u.shiftRegister = w ∧ u.bitCount = 32 ∧ u.deadlineArmed = false ∧ u.indicator = false ∧
      u.pending = s.pending ∧
      (frameValid w = true → u.hasUnreadFrame = true ∧
        u.frame = { address := frameAddress w, command := frameCommand w, repeated := false }) ∧
      (frameValid w = false → u.hasUnreadFrame = s.hasUnreadFrame ∧ u.frame = s.frame)

/-- R141: the round trip: FRAME t, a, c from Idle, with parameters that meet R13 and no deadline fire, leaves {a, c, 0} as new, and the
next TAKE returns it. Where an edge's time passes 2^64 it wraps: the model's choice (log entry 18). -/
def Obligations.FrameRoundTrip : Prop :=
  ∀ (s : State) (t : Micros) (a c : Byte), s.state = .idle → s.params.wellFormed = true →
    s.params.startMarkUs < 2 ^ 64 → s.params.startSpaceUs < 2 ^ 64 → s.params.bit1SpaceUs < 2 ^ 64 →
    ∃ is u, traceCycles s.params [.frame t a c] = .ok is ∧
      Host.Core.run Sys2Proof.core is.length (present is s) = .next u ∧
      u.frame = { address := a, command := c, repeated := false } ∧ u.hasUnreadFrame = true ∧
      ∃ v, runCycle (encode .take) u = .next v ∧ v.out.takeValid = true ∧ v.out.takeAddress = a ∧
        v.out.takeCommand = c ∧ v.out.takeRepeated = false ∧ v.hasUnreadFrame = false

/-- R142, R112: the 4 edges of a repeat code from Idle leave the payload of the last frame, marked repeated, as new. Where an
edge's time passes 2^64 it wraps: the model's choice (log entry 18). -/
def Obligations.RepeatCodeKeepsThePayload : Prop :=
  ∀ (s : State) (t : Micros), s.state = .idle → s.params.wellFormed = true →
    s.params.startMarkUs < 2 ^ 64 → s.params.repeatSpaceUs < 2 ^ 64 →
    ∃ is u, traceCycles s.params [.repeatCode t] = .ok is ∧
      Host.Core.run Sys2Proof.core is.length (present is s) = .next u ∧ u.state = .idle ∧
      u.hasUnreadFrame = true ∧
      u.frame = { address := s.frame.address, command := s.frame.command, repeated := true }

/-- R262: the record the host forwards for a taken frame, and none where nothing was taken. -/
def Obligations.HostRecordOfATakenFrame : Prop :=
  ∀ o : Outputs,
    (o.takeValid = true → o.takeRepeated = true → hostRecord o = some [0x00, o.takeAddress, o.takeCommand, 0x01]) ∧
    (o.takeValid = true → o.takeRepeated = false → hostRecord o = some [0x00, o.takeAddress, o.takeCommand, 0x00]) ∧
    (o.takeValid = false → hostRecord o = none)
end

