-- ==== Sys2Proof/Laws/Decode.lean ====
section
/-! SUPPORT. The control vector's bits, and the operations of a cycle in terms of its input ports. -/

namespace Sys2Proof.Machine

open Sys2Proof

theorem ctlOfBits_bits (r t f v l : Bool) :
    (ctlOfBits r t f v l).getLsbD 4 = r ∧ (ctlOfBits r t f v l).getLsbD 3 = t ∧
    (ctlOfBits r t f v l).getLsbD 2 = f ∧ (ctlOfBits r t f v l).getLsbD 1 = v ∧
    (ctlOfBits r t f v l).getLsbD 0 = l := by
  revert r t f v l; decide

theorem ctl_bit4 (i : Inputs) : i.ctl.getLsbD 4 = i.rst :=
  (ctlOfBits_bits _ _ _ _ _).1

theorem ctl_bit3 (i : Inputs) : i.ctl.getLsbD 3 = i.takeReq :=
  (ctlOfBits_bits _ _ _ _ _).2.1

theorem ctl_bit2 (i : Inputs) : i.ctl.getLsbD 2 = i.timerFire :=
  (ctlOfBits_bits _ _ _ _ _).2.2.1

theorem ctl_bit1 (i : Inputs) : i.ctl.getLsbD 1 = i.edgeValid :=
  (ctlOfBits_bits _ _ _ _ _).2.2.2.1

theorem ctl_bit0 (i : Inputs) : i.ctl.getLsbD 0 = i.edgeLevel :=
  (ctlOfBits_bits _ _ _ _ _).2.2.2.2

/-- The operations of a cycle, by port (30_encoding R74, R76). -/
theorem opsOfInputs_eq (i : Inputs) :
    opsOfInputs i =
      if i.rst then [.reset]
      else
        let ops :=
          (if i.takeReq then [Instr.take] else []) ++ (if i.timerFire then [Instr.timeout] else []) ++
          (if i.edgeValid && i.edgeLevel then [Instr.edgeHigh i.edgeTs] else []) ++
          (if i.edgeValid && !i.edgeLevel then [Instr.edgeLow i.edgeTs] else [])
        if ops = [] then [.nop] else ops := by
  simp only [opsOfInputs, decodeCycle, ctl_bit4, ctl_bit3, ctl_bit2, ctl_bit1, ctl_bit0]

/-- A control vector is the one its five bits form (R74). -/
theorem ctl_ofCtl (c : Ctl) (ts : Micros) : (Inputs.ofCtl c ts).ctl = c := by
  have h : ∀ c : Ctl, ctlOfBits (c.getLsbD 4) (c.getLsbD 3) (c.getLsbD 2) (c.getLsbD 1) (c.getLsbD 0) = c := by
    decide
  exact h c

theorem edgeTs_ofCtl (c : Ctl) (ts : Micros) : (Inputs.ofCtl c ts).edgeTs = ts := rfl

/-- The input ports are determined by their control vector and timestamp (R74). -/
theorem ofCtl_ctl (i : Inputs) : Inputs.ofCtl i.ctl i.edgeTs = i := by
  simp only [Inputs.ofCtl, ctl_bit4, ctl_bit3, ctl_bit2, ctl_bit1, ctl_bit0]

end Sys2Proof.Machine
end

