-- ==== Sys2Proof/Laws/State.lean ====
section
/-! SUPPORT. One lemma per field of State for each named update: what the update writes there, or that it leaves the
field alone. -/

namespace Sys2Proof.Machine

open Sys2Proof

variable (s : State)

@[simp] theorem setUnread_params : (setUnread s).params = s.params := rfl
@[simp] theorem setUnread_state : (setUnread s).state = s.state := rfl
@[simp] theorem setUnread_lastEdgeTimestamp : (setUnread s).lastEdgeTimestamp = s.lastEdgeTimestamp := rfl
@[simp] theorem setUnread_shiftRegister : (setUnread s).shiftRegister = s.shiftRegister := rfl
@[simp] theorem setUnread_bitCount : (setUnread s).bitCount = s.bitCount := rfl
@[simp] theorem setUnread_deadlineArmed : (setUnread s).deadlineArmed = s.deadlineArmed := rfl
@[simp] theorem setUnread_hasUnreadFrame : (setUnread s).hasUnreadFrame = true := rfl
@[simp] theorem setUnread_frame : (setUnread s).frame = s.frame := rfl
@[simp] theorem setUnread_indicator : (setUnread s).indicator = s.indicator := rfl
@[simp] theorem setUnread_out : (setUnread s).out = s.out := rfl
@[simp] theorem setUnread_pending : (setUnread s).pending = s.pending := rfl
@[simp] theorem setUnread_freeDraws : (setUnread s).freeDraws = s.freeDraws := rfl

@[simp] theorem clearUnread_params : (clearUnread s).params = s.params := rfl
@[simp] theorem clearUnread_state : (clearUnread s).state = s.state := rfl
@[simp] theorem clearUnread_lastEdgeTimestamp : (clearUnread s).lastEdgeTimestamp = s.lastEdgeTimestamp := rfl
@[simp] theorem clearUnread_shiftRegister : (clearUnread s).shiftRegister = s.shiftRegister := rfl
@[simp] theorem clearUnread_bitCount : (clearUnread s).bitCount = s.bitCount := rfl
@[simp] theorem clearUnread_deadlineArmed : (clearUnread s).deadlineArmed = s.deadlineArmed := rfl
@[simp] theorem clearUnread_hasUnreadFrame : (clearUnread s).hasUnreadFrame = false := rfl
@[simp] theorem clearUnread_frame : (clearUnread s).frame = s.frame := rfl
@[simp] theorem clearUnread_indicator : (clearUnread s).indicator = s.indicator := rfl
@[simp] theorem clearUnread_out : (clearUnread s).out = s.out := rfl
@[simp] theorem clearUnread_pending : (clearUnread s).pending = s.pending := rfl
@[simp] theorem clearUnread_freeDraws : (clearUnread s).freeDraws = s.freeDraws := rfl

@[simp] theorem setIndicator_params (b : Bool) : (setIndicator b s).params = s.params := rfl
@[simp] theorem setIndicator_state (b : Bool) : (setIndicator b s).state = s.state := rfl
@[simp] theorem setIndicator_lastEdgeTimestamp (b : Bool) :
    (setIndicator b s).lastEdgeTimestamp = s.lastEdgeTimestamp := rfl
@[simp] theorem setIndicator_shiftRegister (b : Bool) : (setIndicator b s).shiftRegister = s.shiftRegister := rfl
@[simp] theorem setIndicator_bitCount (b : Bool) : (setIndicator b s).bitCount = s.bitCount := rfl
@[simp] theorem setIndicator_deadlineArmed (b : Bool) : (setIndicator b s).deadlineArmed = s.deadlineArmed := rfl
@[simp] theorem setIndicator_hasUnreadFrame (b : Bool) : (setIndicator b s).hasUnreadFrame = s.hasUnreadFrame := rfl
@[simp] theorem setIndicator_frame (b : Bool) : (setIndicator b s).frame = s.frame := rfl
@[simp] theorem setIndicator_indicator (b : Bool) : (setIndicator b s).indicator = b := rfl
@[simp] theorem setIndicator_out (b : Bool) : (setIndicator b s).out = s.out := rfl
@[simp] theorem setIndicator_pending (b : Bool) : (setIndicator b s).pending = s.pending := rfl
@[simp] theorem setIndicator_freeDraws (b : Bool) : (setIndicator b s).freeDraws = s.freeDraws := rfl

@[simp] theorem armDeadline_params : (armDeadline s).params = s.params := rfl
@[simp] theorem armDeadline_state : (armDeadline s).state = s.state := rfl
@[simp] theorem armDeadline_lastEdgeTimestamp : (armDeadline s).lastEdgeTimestamp = s.lastEdgeTimestamp := rfl
@[simp] theorem armDeadline_shiftRegister : (armDeadline s).shiftRegister = s.shiftRegister := rfl
@[simp] theorem armDeadline_bitCount : (armDeadline s).bitCount = s.bitCount := rfl
@[simp] theorem armDeadline_deadlineArmed : (armDeadline s).deadlineArmed = true := rfl
@[simp] theorem armDeadline_hasUnreadFrame : (armDeadline s).hasUnreadFrame = s.hasUnreadFrame := rfl
@[simp] theorem armDeadline_frame : (armDeadline s).frame = s.frame := rfl
@[simp] theorem armDeadline_indicator : (armDeadline s).indicator = s.indicator := rfl
@[simp] theorem armDeadline_out :
    (armDeadline s).out = { s.out with timerArm := true, timerDelayMs := s.params.deadlineMs } := rfl
@[simp] theorem armDeadline_pending : (armDeadline s).pending = s.pending := rfl
@[simp] theorem armDeadline_freeDraws : (armDeadline s).freeDraws = s.freeDraws := rfl

@[simp] theorem consumeDeadline_params : (consumeDeadline s).params = s.params := rfl
@[simp] theorem consumeDeadline_state : (consumeDeadline s).state = s.state := rfl
@[simp] theorem consumeDeadline_lastEdgeTimestamp : (consumeDeadline s).lastEdgeTimestamp = s.lastEdgeTimestamp := rfl
@[simp] theorem consumeDeadline_shiftRegister : (consumeDeadline s).shiftRegister = s.shiftRegister := rfl
@[simp] theorem consumeDeadline_bitCount : (consumeDeadline s).bitCount = s.bitCount := rfl
@[simp] theorem consumeDeadline_deadlineArmed : (consumeDeadline s).deadlineArmed = false := rfl
@[simp] theorem consumeDeadline_hasUnreadFrame : (consumeDeadline s).hasUnreadFrame = s.hasUnreadFrame := rfl
@[simp] theorem consumeDeadline_frame : (consumeDeadline s).frame = s.frame := rfl
@[simp] theorem consumeDeadline_indicator : (consumeDeadline s).indicator = s.indicator := rfl
@[simp] theorem consumeDeadline_out : (consumeDeadline s).out = s.out := rfl
@[simp] theorem consumeDeadline_pending : (consumeDeadline s).pending = s.pending := rfl
@[simp] theorem consumeDeadline_freeDraws : (consumeDeadline s).freeDraws = s.freeDraws := rfl

@[simp] theorem beginCycle_params : (beginCycle s).params = s.params := rfl
@[simp] theorem beginCycle_state : (beginCycle s).state = s.state := rfl
@[simp] theorem beginCycle_lastEdgeTimestamp : (beginCycle s).lastEdgeTimestamp = s.lastEdgeTimestamp := rfl
@[simp] theorem beginCycle_shiftRegister : (beginCycle s).shiftRegister = s.shiftRegister := rfl
@[simp] theorem beginCycle_bitCount : (beginCycle s).bitCount = s.bitCount := rfl
@[simp] theorem beginCycle_deadlineArmed : (beginCycle s).deadlineArmed = s.deadlineArmed := rfl
@[simp] theorem beginCycle_hasUnreadFrame : (beginCycle s).hasUnreadFrame = s.hasUnreadFrame := rfl
@[simp] theorem beginCycle_frame : (beginCycle s).frame = s.frame := rfl
@[simp] theorem beginCycle_indicator : (beginCycle s).indicator = s.indicator := rfl
@[simp] theorem beginCycle_out : (beginCycle s).out = defaultOutputs s := rfl
@[simp] theorem beginCycle_pending : (beginCycle s).pending = s.pending := rfl
@[simp] theorem beginCycle_freeDraws : (beginCycle s).freeDraws = s.freeDraws := rfl

@[simp] theorem setState_params (x : DecoderState) : (setState x s).params = s.params := rfl
@[simp] theorem setState_state (x : DecoderState) : (setState x s).state = x := rfl
@[simp] theorem setState_lastEdgeTimestamp (x : DecoderState) :
    (setState x s).lastEdgeTimestamp = s.lastEdgeTimestamp := rfl
@[simp] theorem setState_shiftRegister (x : DecoderState) : (setState x s).shiftRegister = s.shiftRegister := rfl
@[simp] theorem setState_bitCount (x : DecoderState) : (setState x s).bitCount = s.bitCount := rfl
@[simp] theorem setState_deadlineArmed (x : DecoderState) : (setState x s).deadlineArmed = s.deadlineArmed := rfl
@[simp] theorem setState_hasUnreadFrame (x : DecoderState) : (setState x s).hasUnreadFrame = s.hasUnreadFrame := rfl
@[simp] theorem setState_frame (x : DecoderState) : (setState x s).frame = s.frame := rfl
@[simp] theorem setState_indicator (x : DecoderState) : (setState x s).indicator = s.indicator := rfl
@[simp] theorem setState_out (x : DecoderState) : (setState x s).out = s.out := rfl
@[simp] theorem setState_pending (x : DecoderState) : (setState x s).pending = s.pending := rfl
@[simp] theorem setState_freeDraws (x : DecoderState) : (setState x s).freeDraws = s.freeDraws := rfl

@[simp] theorem raiseDiag_params (d : Diag) (dt : Micros) : (raiseDiag d dt s).params = s.params := rfl
@[simp] theorem raiseDiag_state (d : Diag) (dt : Micros) : (raiseDiag d dt s).state = s.state := rfl
@[simp] theorem raiseDiag_lastEdgeTimestamp (d : Diag) (dt : Micros) :
    (raiseDiag d dt s).lastEdgeTimestamp = s.lastEdgeTimestamp := rfl
@[simp] theorem raiseDiag_shiftRegister (d : Diag) (dt : Micros) :
    (raiseDiag d dt s).shiftRegister = s.shiftRegister := rfl
@[simp] theorem raiseDiag_bitCount (d : Diag) (dt : Micros) : (raiseDiag d dt s).bitCount = s.bitCount := rfl
@[simp] theorem raiseDiag_deadlineArmed (d : Diag) (dt : Micros) :
    (raiseDiag d dt s).deadlineArmed = s.deadlineArmed := rfl
@[simp] theorem raiseDiag_hasUnreadFrame (d : Diag) (dt : Micros) :
    (raiseDiag d dt s).hasUnreadFrame = s.hasUnreadFrame := rfl
@[simp] theorem raiseDiag_frame (d : Diag) (dt : Micros) : (raiseDiag d dt s).frame = s.frame := rfl
@[simp] theorem raiseDiag_indicator (d : Diag) (dt : Micros) : (raiseDiag d dt s).indicator = s.indicator := rfl
@[simp] theorem raiseDiag_out (d : Diag) (dt : Micros) :
    (raiseDiag d dt s).out = { s.out with diagValid := true, diagCode := d.code, diagDelta := dt } := rfl
@[simp] theorem raiseDiag_pending (d : Diag) (dt : Micros) : (raiseDiag d dt s).pending = s.pending := rfl
@[simp] theorem raiseDiag_freeDraws (d : Diag) (dt : Micros) : (raiseDiag d dt s).freeDraws = s.freeDraws := rfl

@[simp] theorem recordEdge_params (ts : Micros) : (recordEdge ts s).params = s.params := rfl
@[simp] theorem recordEdge_state (ts : Micros) : (recordEdge ts s).state = s.state := rfl
@[simp] theorem recordEdge_lastEdgeTimestamp (ts : Micros) : (recordEdge ts s).lastEdgeTimestamp = ts := rfl
@[simp] theorem recordEdge_shiftRegister (ts : Micros) : (recordEdge ts s).shiftRegister = s.shiftRegister := rfl
@[simp] theorem recordEdge_bitCount (ts : Micros) : (recordEdge ts s).bitCount = s.bitCount := rfl
@[simp] theorem recordEdge_deadlineArmed (ts : Micros) : (recordEdge ts s).deadlineArmed = s.deadlineArmed := rfl
@[simp] theorem recordEdge_hasUnreadFrame (ts : Micros) : (recordEdge ts s).hasUnreadFrame = s.hasUnreadFrame := rfl
@[simp] theorem recordEdge_frame (ts : Micros) : (recordEdge ts s).frame = s.frame := rfl
@[simp] theorem recordEdge_indicator (ts : Micros) : (recordEdge ts s).indicator = s.indicator := rfl
@[simp] theorem recordEdge_out (ts : Micros) : (recordEdge ts s).out = s.out := rfl
@[simp] theorem recordEdge_pending (ts : Micros) : (recordEdge ts s).pending = s.pending := rfl
@[simp] theorem recordEdge_freeDraws (ts : Micros) : (recordEdge ts s).freeDraws = s.freeDraws := rfl

@[simp] theorem present_params (cycles : List Inputs) : (present cycles s).params = s.params := rfl
@[simp] theorem present_state (cycles : List Inputs) : (present cycles s).state = s.state := rfl
@[simp] theorem present_lastEdgeTimestamp (cycles : List Inputs) :
    (present cycles s).lastEdgeTimestamp = s.lastEdgeTimestamp := rfl
@[simp] theorem present_shiftRegister (cycles : List Inputs) :
    (present cycles s).shiftRegister = s.shiftRegister := rfl
@[simp] theorem present_bitCount (cycles : List Inputs) : (present cycles s).bitCount = s.bitCount := rfl
@[simp] theorem present_deadlineArmed (cycles : List Inputs) :
    (present cycles s).deadlineArmed = s.deadlineArmed := rfl
@[simp] theorem present_hasUnreadFrame (cycles : List Inputs) :
    (present cycles s).hasUnreadFrame = s.hasUnreadFrame := rfl
@[simp] theorem present_frame (cycles : List Inputs) : (present cycles s).frame = s.frame := rfl
@[simp] theorem present_indicator (cycles : List Inputs) : (present cycles s).indicator = s.indicator := rfl
@[simp] theorem present_out (cycles : List Inputs) : (present cycles s).out = s.out := rfl
@[simp] theorem present_pending (cycles : List Inputs) : (present cycles s).pending = cycles ++ s.pending := rfl
@[simp] theorem present_freeDraws (cycles : List Inputs) : (present cycles s).freeDraws = s.freeDraws := rfl

@[simp] theorem clearAccumulator_params : (clearAccumulator s).params = s.params := rfl
@[simp] theorem clearAccumulator_state : (clearAccumulator s).state = s.state := rfl
@[simp] theorem clearAccumulator_lastEdgeTimestamp :
    (clearAccumulator s).lastEdgeTimestamp = s.lastEdgeTimestamp := rfl
@[simp] theorem clearAccumulator_shiftRegister : (clearAccumulator s).shiftRegister = 0 := rfl
@[simp] theorem clearAccumulator_bitCount : (clearAccumulator s).bitCount = 0 := rfl
@[simp] theorem clearAccumulator_deadlineArmed : (clearAccumulator s).deadlineArmed = s.deadlineArmed := rfl
@[simp] theorem clearAccumulator_hasUnreadFrame : (clearAccumulator s).hasUnreadFrame = s.hasUnreadFrame := rfl
@[simp] theorem clearAccumulator_frame : (clearAccumulator s).frame = s.frame := rfl
@[simp] theorem clearAccumulator_indicator : (clearAccumulator s).indicator = s.indicator := rfl
@[simp] theorem clearAccumulator_out : (clearAccumulator s).out = s.out := rfl
@[simp] theorem clearAccumulator_pending : (clearAccumulator s).pending = s.pending := rfl
@[simp] theorem clearAccumulator_freeDraws : (clearAccumulator s).freeDraws = s.freeDraws := rfl

@[simp] theorem shiftIn_params (b : Bool) : (shiftIn b s).params = s.params := rfl
@[simp] theorem shiftIn_state (b : Bool) : (shiftIn b s).state = s.state := rfl
@[simp] theorem shiftIn_lastEdgeTimestamp (b : Bool) : (shiftIn b s).lastEdgeTimestamp = s.lastEdgeTimestamp := rfl
@[simp] theorem shiftIn_shiftRegister (b : Bool) : (shiftIn b s).shiftRegister = shiftWord s.shiftRegister b := rfl
@[simp] theorem shiftIn_bitCount (b : Bool) : (shiftIn b s).bitCount = s.bitCount + 1 := rfl
@[simp] theorem shiftIn_deadlineArmed (b : Bool) : (shiftIn b s).deadlineArmed = s.deadlineArmed := rfl
@[simp] theorem shiftIn_hasUnreadFrame (b : Bool) : (shiftIn b s).hasUnreadFrame = s.hasUnreadFrame := rfl
@[simp] theorem shiftIn_frame (b : Bool) : (shiftIn b s).frame = s.frame := rfl
@[simp] theorem shiftIn_indicator (b : Bool) : (shiftIn b s).indicator = s.indicator := rfl
@[simp] theorem shiftIn_out (b : Bool) : (shiftIn b s).out = s.out := rfl
@[simp] theorem shiftIn_pending (b : Bool) : (shiftIn b s).pending = s.pending := rfl
@[simp] theorem shiftIn_freeDraws (b : Bool) : (shiftIn b s).freeDraws = s.freeDraws := rfl

@[simp] theorem emitFrame_params (a c : Byte) : (emitFrame a c s).params = s.params := rfl
@[simp] theorem emitFrame_state (a c : Byte) : (emitFrame a c s).state = s.state := rfl
@[simp] theorem emitFrame_lastEdgeTimestamp (a c : Byte) :
    (emitFrame a c s).lastEdgeTimestamp = s.lastEdgeTimestamp := rfl
@[simp] theorem emitFrame_shiftRegister (a c : Byte) : (emitFrame a c s).shiftRegister = s.shiftRegister := rfl
@[simp] theorem emitFrame_bitCount (a c : Byte) : (emitFrame a c s).bitCount = s.bitCount := rfl
@[simp] theorem emitFrame_deadlineArmed (a c : Byte) : (emitFrame a c s).deadlineArmed = s.deadlineArmed := rfl
@[simp] theorem emitFrame_hasUnreadFrame (a c : Byte) : (emitFrame a c s).hasUnreadFrame = true := rfl
@[simp] theorem emitFrame_frame (a c : Byte) :
    (emitFrame a c s).frame = { address := a, command := c, repeated := false } := rfl
@[simp] theorem emitFrame_indicator (a c : Byte) : (emitFrame a c s).indicator = s.indicator := rfl
@[simp] theorem emitFrame_out (a c : Byte) : (emitFrame a c s).out = s.out := rfl
@[simp] theorem emitFrame_pending (a c : Byte) : (emitFrame a c s).pending = s.pending := rfl
@[simp] theorem emitFrame_freeDraws (a c : Byte) : (emitFrame a c s).freeDraws = s.freeDraws := rfl

@[simp] theorem emitRepeat_params : (emitRepeat s).params = s.params := rfl
@[simp] theorem emitRepeat_state : (emitRepeat s).state = s.state := rfl
@[simp] theorem emitRepeat_lastEdgeTimestamp : (emitRepeat s).lastEdgeTimestamp = s.lastEdgeTimestamp := rfl
@[simp] theorem emitRepeat_shiftRegister : (emitRepeat s).shiftRegister = s.shiftRegister := rfl
@[simp] theorem emitRepeat_bitCount : (emitRepeat s).bitCount = s.bitCount := rfl
@[simp] theorem emitRepeat_deadlineArmed : (emitRepeat s).deadlineArmed = s.deadlineArmed := rfl
@[simp] theorem emitRepeat_hasUnreadFrame : (emitRepeat s).hasUnreadFrame = true := rfl
@[simp] theorem emitRepeat_frame : (emitRepeat s).frame = { s.frame with repeated := true } := rfl
@[simp] theorem emitRepeat_indicator : (emitRepeat s).indicator = s.indicator := rfl
@[simp] theorem emitRepeat_out : (emitRepeat s).out = s.out := rfl
@[simp] theorem emitRepeat_pending : (emitRepeat s).pending = s.pending := rfl
@[simp] theorem emitRepeat_freeDraws : (emitRepeat s).freeDraws = s.freeDraws := rfl

@[simp] theorem showSlot_params : (showSlot s).params = s.params := rfl
@[simp] theorem showSlot_state : (showSlot s).state = s.state := rfl
@[simp] theorem showSlot_lastEdgeTimestamp : (showSlot s).lastEdgeTimestamp = s.lastEdgeTimestamp := rfl
@[simp] theorem showSlot_shiftRegister : (showSlot s).shiftRegister = s.shiftRegister := rfl
@[simp] theorem showSlot_bitCount : (showSlot s).bitCount = s.bitCount := rfl
@[simp] theorem showSlot_deadlineArmed : (showSlot s).deadlineArmed = s.deadlineArmed := rfl
@[simp] theorem showSlot_hasUnreadFrame : (showSlot s).hasUnreadFrame = s.hasUnreadFrame := rfl
@[simp] theorem showSlot_frame : (showSlot s).frame = s.frame := rfl
@[simp] theorem showSlot_indicator : (showSlot s).indicator = s.indicator := rfl
@[simp] theorem showSlot_out :
    (showSlot s).out = { s.out with takeValid := s.hasUnreadFrame, takeAddress := s.frame.address, takeCommand := s.frame.command, takeRepeated := s.frame.repeated } := rfl
@[simp] theorem showSlot_pending : (showSlot s).pending = s.pending := rfl
@[simp] theorem showSlot_freeDraws : (showSlot s).freeDraws = s.freeDraws := rfl

end Sys2Proof.Machine
end

