-- ==== Sys2Proof/Laws/Ops.lean ====
section
/-! SUPPORT. What each shared operation does, said once as the record it leaves. -/

namespace Sys2Proof.Machine

open Sys2Proof

/-- `enterWaitForStart()` (43_deadline_guard R184). -/
theorem enterWaitForStart_eq (s : State) :
    enterWaitForStart s =
      { s with
        state := .waitForStart, indicator := true, deadlineArmed := true
        out := { s.out with timerArm := true, timerDelayMs := s.params.deadlineMs } } := rfl

/-- `cancelDeadline`, with the pulse as a function of the bit (R185). -/
theorem cancelDeadline_eq (s : State) :
    cancelDeadline s =
      { s with
        deadlineArmed := false
        out := { s.out with timerCancel := s.deadlineArmed || s.out.timerCancel } } := by
  rcases s with ⟨_, _, _, _, _, armed, _, _, _, _, _, _⟩
  cases armed <;> rfl

/-- `enterIdle()` (R185). -/
theorem enterIdle_eq (s : State) :
    enterIdle s =
      { s with
        state := .idle, indicator := false, deadlineArmed := false
        out := { s.out with timerCancel := s.deadlineArmed || s.out.timerCancel } } := by
  simp only [enterIdle, cancelDeadline_eq, setIndicator, setState]

/-- Taking an error that enters Idle (60_exceptions R245). -/
theorem takeError_eq (d : Diag) (dt : Micros) (s : State) :
    takeError d dt s =
      { s with
        state := .idle, indicator := false, deadlineArmed := false
        out := { s.out with
          timerCancel := s.deadlineArmed || s.out.timerCancel
          diagValid := true, diagCode := d.code, diagDelta := dt } } := by
  simp only [takeError, enterIdle_eq, raiseDiag]

/-- `completeFrame` on a valid frame (41_frame_assembly R136, R140). -/
theorem completeFrame_valid (dt : Micros) (s : State) (h : frameValid s.shiftRegister = true) :
    completeFrame dt s =
      { s with
        state := .waitEnd, hasUnreadFrame := true
        frame :=
          { address := frameAddress s.shiftRegister, command := frameCommand s.shiftRegister, repeated := false } } := by
  simp only [completeFrame, h, if_true, emitFrame, setUnread, setState]

/-- `completeFrame` on an invalid frame (R136). -/
theorem completeFrame_invalid (dt : Micros) (s : State) (h : frameValid s.shiftRegister = false) :
    completeFrame dt s =
      { s with
        state := .waitEnd
        out := { s.out with diagValid := true, diagCode := 4, diagDelta := dt } } := by
  simp only [completeFrame, h, Bool.false_eq_true, if_false, raiseDiag, setState, Diag.code]

/-- The recovery leaves a legal state alone (10_state R39). -/
theorem recoverUnreachable_legal (s : State) (h : s.state.isLegal = true) : recoverUnreachable s = s := by
  simp only [recoverUnreachable, h, if_true]

/-- The recovery from an unreachable state (R39). -/
theorem recoverUnreachable_unreachable (s : State) (h : s.state.isLegal = false) :
    recoverUnreachable s = { s with state := .idle, indicator := false, deadlineArmed := false } := by
  simp only [recoverUnreachable, h, Bool.false_eq_true, if_false]

/-- TIMEOUT with no deadline outstanding (43_deadline_guard R183). -/
theorem timeoutOp_stale (s : State) (h : s.deadlineArmed = false) : timeoutOp s = s := by
  simp only [timeoutOp, h, Bool.false_and, Bool.false_eq_true, if_false]

/-- TIMEOUT in an unreachable state is ignored (10_state R39). -/
theorem timeoutOp_unreachable (s : State) (h : s.state.isLegal = false) : timeoutOp s = s := by
  simp only [timeoutOp, h, Bool.and_false, Bool.false_eq_true, if_false]

/-- TIMEOUT honoured and forcing Idle (R181). -/
theorem timeoutOp_forces (s : State) (ha : s.deadlineArmed = true) (hl : s.state.isLegal = true)
    (hf : timeoutForcesIdle s = true) :
    timeoutOp s =
      { s with
        state := .idle, indicator := false, deadlineArmed := false
        out := { s.out with diagValid := true, diagCode := 5, diagDelta := 0 } } := by
  simp only [timeoutOp, ha, hl, hf, Bool.and_self, if_true, takeError_eq, consumeDeadline, Bool.false_or, Diag.code]

/-- TIMEOUT honoured and only consuming the deadline (R182). -/
theorem timeoutOp_consumes (s : State) (ha : s.deadlineArmed = true) (hl : s.state.isLegal = true)
    (hf : timeoutForcesIdle s = false) :
    timeoutOp s = { s with deadlineArmed := false } := by
  simp only [timeoutOp, ha, hl, hf, Bool.and_self, if_true, Bool.false_eq_true, if_false, consumeDeadline]

/-- EDGE_HIGH in an unreachable state is ignored (10_state R39). -/
theorem edgeHigh_unreachable (ts : Micros) (s : State) (h : s.state.isLegal = false) : edgeHigh ts s = s := by
  unfold edgeHigh
  split <;> simp_all [DecoderState.isLegal]

/-- EDGE_LOW in an unreachable state is ignored (10_state R39). -/
theorem edgeLow_unreachable (ts : Micros) (s : State) (h : s.state.isLegal = false) : edgeLow ts s = s := by
  unfold edgeLow
  split <;> simp_all [DecoderState.isLegal]

end Sys2Proof.Machine
end

