-- ==== Sys2Proof/Laws/Edge.lean ====
section
/-! SUPPORT. Which cell of the state table an EDGE runs, and what each cell that can go two ways does
(40_edge_fsm R101 to R111). -/

namespace Sys2Proof.Machine

open Sys2Proof

theorem edgeHigh_idle (ts : Micros) (s : State) (h : s.state = .idle) :
    edgeHigh ts s = recordEdge ts (edgeIdleHigh s) := by
  unfold edgeHigh; rw [h]

theorem edgeHigh_waitForStart (ts : Micros) (s : State) (h : s.state = .waitForStart) :
    edgeHigh ts s = recordEdge ts (edgeWaitForStartHigh (delta s ts) s) := by
  unfold edgeHigh; rw [h]

theorem edgeHigh_addressOrRepeat (ts : Micros) (s : State) (h : s.state = .addressOrRepeat) :
    edgeHigh ts s = recordEdge ts (edgeAddressOrRepeatHigh (delta s ts) s) := by
  unfold edgeHigh; rw [h]

theorem edgeHigh_receiveFrame (ts : Micros) (s : State) (h : s.state = .receiveFrame) :
    edgeHigh ts s = recordEdge ts (edgeReceiveFrameHigh (delta s ts) s) := by
  unfold edgeHigh; rw [h]

theorem edgeHigh_waitEnd (ts : Micros) (s : State) (h : s.state = .waitEnd) :
    edgeHigh ts s = recordEdge ts (edgeWaitEndHigh s) := by
  unfold edgeHigh; rw [h]

theorem edgeLow_idle (ts : Micros) (s : State) (h : s.state = .idle) :
    edgeLow ts s = recordEdge ts (edgeIdleLow s) := by
  unfold edgeLow; rw [h]

theorem edgeLow_waitForStart (ts : Micros) (s : State) (h : s.state = .waitForStart) :
    edgeLow ts s = recordEdge ts (edgeWaitForStartLow (delta s ts) s) := by
  unfold edgeLow; rw [h]

theorem edgeLow_addressOrRepeat (ts : Micros) (s : State) (h : s.state = .addressOrRepeat) :
    edgeLow ts s = recordEdge ts (edgeAddressOrRepeatLow (delta s ts) s) := by
  unfold edgeLow; rw [h]

theorem edgeLow_receiveFrame (ts : Micros) (s : State) (h : s.state = .receiveFrame) :
    edgeLow ts s = recordEdge ts (edgeReceiveFrameLow s) := by
  unfold edgeLow; rw [h]

theorem edgeLow_waitEnd (ts : Micros) (s : State) (h : s.state = .waitEnd) :
    edgeLow ts s = recordEdge ts (edgeWaitEndLow s) := by
  unfold edgeLow; rw [h]

/-- The start mark in its window (R105). -/
theorem edgeWaitForStartLow_inWindow (dt : Micros) (s : State) (h : isStartMark s.params dt = true) :
    edgeWaitForStartLow dt s = setState .addressOrRepeat s := by
  simp only [edgeWaitForStartLow, h, if_true]

/-- The start mark out of its window (R105). -/
theorem edgeWaitForStartLow_outOfWindow (dt : Micros) (s : State) (h : isStartMark s.params dt = false) :
    edgeWaitForStartLow dt s = takeError .invalidStartTiming dt s := by
  simp only [edgeWaitForStartLow, h, Bool.false_eq_true, if_false]

/-- The frame space (R106). -/
theorem edgeAddressOrRepeatHigh_frame (dt : Micros) (s : State) (h : classifyAfterStart s.params dt = .frameSpace) :
    edgeAddressOrRepeatHigh dt s = setState .receiveFrame (clearAccumulator s) := by
  simp only [edgeAddressOrRepeatHigh, h]

/-- The repeat space (R106). -/
theorem edgeAddressOrRepeatHigh_repeat (dt : Micros) (s : State)
    (h : classifyAfterStart s.params dt = .repeatSpace) :
    edgeAddressOrRepeatHigh dt s = setState .waitEnd (emitRepeat s) := by
  simp only [edgeAddressOrRepeatHigh, h]

/-- Neither space (R106). -/
theorem edgeAddressOrRepeatHigh_noMatch (dt : Micros) (s : State) (h : classifyAfterStart s.params dt = .noMatch) :
    edgeAddressOrRepeatHigh dt s = s := by
  simp only [edgeAddressOrRepeatHigh, h]

/-- A space in no bit window (R108). -/
theorem edgeReceiveFrameHigh_noBit (dt : Micros) (s : State) (h : classifyBit s.params dt = .noBit) :
    edgeReceiveFrameHigh dt s = takeError .invalidBitTiming dt s := by
  simp only [edgeReceiveFrameHigh, h]

/-- A space in a bit window (R108). -/
theorem edgeReceiveFrameHigh_bit (dt : Micros) (s : State) (b : Bool) (h : classifyBit s.params dt = .bit b) :
    edgeReceiveFrameHigh dt s = acceptBit b dt s := by
  simp only [edgeReceiveFrameHigh, h]

/-- A valid bit short of the 32nd (R108). -/
theorem acceptBit_more (b : Bool) (dt : Micros) (s : State) (h : s.bitCount + 1 ≠ 32) :
    acceptBit b dt s = shiftIn b s := by
  unfold acceptBit; rw [shiftIn_bitCount, if_neg h]

/-- The 32nd valid bit (R108). -/
theorem acceptBit_last (b : Bool) (dt : Micros) (s : State) (h : s.bitCount + 1 = 32) :
    acceptBit b dt s = completeFrame dt (shiftIn b s) := by
  unfold acceptBit; rw [shiftIn_bitCount, if_pos h]

end Sys2Proof.Machine
end

