-- ==== Sys2Proof/Laws/Exec.lean ====
section
/-! SUPPORT. exec and a list of operations as functions on states: no operation stops. -/

namespace Sys2Proof.Machine

open Sys2Proof

/-- The state an operation leaves. -/
def opResult (i : Instr) (s : State) : State :=
  match i with
  | .reset => resetRegisters s
  | .take => takeOp s
  | .timeout => timeoutOp s
  | .edgeHigh ts => edgeHigh ts s
  | .edgeLow ts => edgeLow ts s
  | .nop => s

/-- exec answers the state its operation leaves. -/
theorem exec_eq (i : Instr) (s : State) : exec i s = .next (opResult i s) := by
  cases i <;> rfl

/-- A list of operations leaves what they leave one after another (45_control R222). -/
theorem execAll_eq (ops : List Instr) (s : State) :
    execAll ops s = .next (ops.foldl (fun t i => opResult i t) s) := by
  induction ops generalizing s with
  | nil => rfl
  | cons i rest ih => simp only [execAll, exec_eq, List.foldl_cons, ih]

/-- The state a cycle leaves. -/
def cycleResult (i : Inputs) (s : State) : State :=
  recoverUnreachable ((opsOfInputs i).foldl (fun t j => opResult j t) (beginCycle s))

/-- A cycle answers the state it leaves. -/
theorem runCycle_eq (i : Inputs) (s : State) : runCycle i s = .next (cycleResult i s) := by
  simp only [runCycle, execAll_eq, cycleResult]

/-- The TAKE sub-step of a cycle. -/
def takePart (i : Inputs) (s : State) : State := if i.takeReq then takeOp s else s

/-- The TIMEOUT sub-step of a cycle. -/
def timeoutPart (i : Inputs) (s : State) : State := if i.timerFire then timeoutOp s else s

/-- The EDGE sub-step of a cycle. -/
def edgePart (i : Inputs) (s : State) : State :=
  if i.edgeValid then (if i.edgeLevel then edgeHigh i.edgeTs s else edgeLow i.edgeTs s) else s

/-- A RESET cycle leaves the reset registers (45_control R221). -/
theorem cycleResult_reset (i : Inputs) (s : State) (h : i.rst = true) :
    cycleResult i s = resetRegisters (beginCycle s) := by
  simp only [cycleResult, opsOfInputs_eq, h, if_true, List.foldl_cons, List.foldl_nil, opResult]
  exact recoverUnreachable_legal _ rfl

/-- A cycle without RESET: TAKE, then TIMEOUT, then EDGE, then the recovery (R222). -/
theorem cycleResult_parts (i : Inputs) (s : State) (h : i.rst = false) :
    cycleResult i s = recoverUnreachable (edgePart i (timeoutPart i (takePart i (beginCycle s)))) := by
  rcases i with ⟨_, take, fire, valid, level, ts⟩
  simp only at h
  subst h
  simp only [cycleResult, opsOfInputs_eq, takePart, timeoutPart, edgePart]
  cases take <;> cases fire <;> cases valid <;> cases level <;> rfl

end Sys2Proof.Machine
end

