-- ==== Sys2Proof/Laws/PerInstr.lean ====
section
/-! SUPPORT. Per operation: alone in its cycle it is well formed, its encoding shows its match value and its operand
on the ports, and those ports carry exactly it (30_encoding R75 to R77). -/

namespace Sys2Proof.Laws.SingleCycle

open Sys2Proof Sys2Proof.Machine

/-- An operation alone in its cycle. -/
def Statement (i : Instr) : Prop :=
  i.wellFormed = true ∧ cycleWellFormed [i] = true ∧
    (encode i).ctl = i.ctlMatch ∧ (encode i).edgeTs = i.operand ∧ opsOfInputs (encode i) = [i]

theorem reset : Statement .reset :=
  ⟨rfl, by decide, ctl_ofCtl _ _, rfl, by decide⟩

theorem take : Statement .take :=
  ⟨rfl, by decide, ctl_ofCtl _ _, rfl, by decide⟩

theorem timeout : Statement .timeout :=
  ⟨rfl, by decide, ctl_ofCtl _ _, rfl, by decide⟩

theorem edgeHigh (ts : Micros) : Statement (.edgeHigh ts) := by
  refine ⟨rfl, ?_, ctl_ofCtl _ _, rfl, ?_⟩
  · simp [cycleWellFormed, cycleError, Instr.isEdge, Instr.phase, strictlyRising]
  · simp [opsOfInputs, encode, ctl_ofCtl, edgeTs_ofCtl, decodeCycle, Instr.ctlMatch, Instr.operand]

theorem edgeLow (ts : Micros) : Statement (.edgeLow ts) := by
  refine ⟨rfl, ?_, ctl_ofCtl _ _, rfl, ?_⟩
  · simp [cycleWellFormed, cycleError, Instr.isEdge, Instr.phase, strictlyRising]
  · simp [opsOfInputs, encode, ctl_ofCtl, edgeTs_ofCtl, decodeCycle, Instr.ctlMatch, Instr.operand]

theorem nop : Statement .nop :=
  ⟨rfl, by decide, ctl_ofCtl _ _, rfl, by decide⟩

end Sys2Proof.Laws.SingleCycle
end

