-- ==== Sys2Proof/Tests/Slice0.lean ====
section
/-! SUPPORT. The model's own tests. Expected values are the spec's: 30_encoding R75 and R83, and the tables of
95_test_vectors; the witnesses show states and operands that meet the hypotheses of the obligations. -/

namespace Sys2Proof.Tests

open Sys2Proof Sys2Proof.Machine

/-- The next state of an outcome. -/
def after (o : Host.Outcome State Fault Refusal) : Option State :=
  match o with
  | .next t => some t
  | .fault _ => none
  | .refused _ => none

/-- A machine in a given state, with `lastEdgeTimestamp = 1000` and the other registers as R40 asks (95_test_vectors 2.3). -/
def inState (x : DecoderState) (armed : Bool) : State :=
  { State.reset with state := x, lastEdgeTimestamp := 1000, deadlineArmed := armed, indicator := x != .idle }

/-- A machine in ReceiveFrame with 31 bits of the word 0xED12FF00 received (E22, E23). -/
def lastBitDue : State :=
  { inState .receiveFrame true with shiftRegister := 0xDA25FE00, bitCount := 31 }

/-- The default parameters with TIMEOUT_ANY_STATE = true. -/
def anyState : Params :=
  { Params.default with timeoutAnyState := true }

/-! ### Well-formedness: an ill-formed term for each check -/

theorem test_cycle_empty : cycleError [] = some .empty := by decide
theorem test_cycle_resetNotAlone : cycleError [.reset, .take] = some .resetNotAlone := by decide
theorem test_cycle_nopNotAlone : cycleError [.take, .nop] = some .nopNotAlone := by decide
theorem test_cycle_twoEdges : cycleError [.edgeHigh 1, .edgeLow 2] = some .twoEdges := by decide
theorem test_cycle_order : cycleError [.timeout, .take] = some .notInCycleOrder := by decide
theorem test_cycle_wellFormed : cycleError [.take, .timeout, .edgeLow 3] = none := by decide
theorem test_params_default : Params.default.wellFormed = true := by decide
theorem test_params_lowerBound :
    ({ Params.default with bit0SpaceUs := 249 } : Params).error = some .negativeLowerBound := by decide
theorem test_params_bitWindows :
    ({ Params.default with bit1SpaceUs := 1000 } : Params).error = some .bitWindowsOverlap := by decide
theorem test_params_spaceWindows :
    ({ Params.default with repeatSpaceUs := 3500 } : Params).error = some .spaceWindowsOverlap := by decide

/-! ### Decoding: words written out from R75, the operand from R83; each constructor -/

theorem test_decode_reset : decodeTableWord 8 0b10000 = some .reset := by decide
theorem test_decode_take : decodeTableWord 8 0b01000 = some .take := by decide
theorem test_decode_timeout : decodeTableWord 8 0b00100 = some .timeout := by decide
theorem test_decode_edgeHigh : decodeTableWord 72 0x000000000000003E803 = some (.edgeHigh 1000) := by decide
theorem test_decode_edgeLow : decodeTableWord 72 0x0000000000000271002 = some (.edgeLow 10000) := by decide
theorem test_decode_nop : decodeTableWord 8 0b00001 = some .nop := by decide
theorem test_decode_group : decodeCycle 0b01110 8 = [.take, .timeout, .edgeLow 8] := by decide
theorem test_decode_notAControlVector : decodeTableWord 8 0b100000 = none := by decide
theorem test_decode_tooShort : (decodeBytes [3, 0]).toOption = none := by decide

/-- The encoding table of 10_state R22. -/
theorem test_state_codes :
    [DecoderState.idle, .waitForStart, .addressOrRepeat, .receiveFrame, .waitEnd, .unreachable5, .unreachable6,
      .unreachable7].map DecoderState.code = [0b000, 0b001, 0b010, 0b011, 0b100, 0b101, 0b110, 0b111] := by decide

/-! ### One step of each operation -/

/-- N3: RESET of a machine in ReceiveFrame cancels nothing and returns to the reset registers. -/
theorem test_reset_in_frame :
    (after (step ((lastBitDue).withFetchWord 8 0b10000))).map (fun t => (t.state, t.bitCount, t.out.timerCancel)) =
      some (.idle, 0, false) := by decide

/-- K2: TAKE of a frame. -/
theorem test_take_frame :
    (after (step (({ State.reset with hasUnreadFrame := true, frame := ⟨0x00, 0x12, false⟩ } : State).withFetchWord 8
      0b01000))).map (fun t => (t.out.takeValid, t.out.takeCommand, t.hasUnreadFrame)) =
      some (true, 0x12, false) := by decide

/-- T2: TIMEOUT in WaitForStart: StartTimeout, no cancel. -/
theorem test_timeout_waitForStart :
    (after (step ((inState .waitForStart true).withFetchWord 8 0b00100))).map
      (fun t => (t.state, t.out.diagCode, t.out.timerCancel)) = some (.idle, 5, false) := by decide

/-- T6 and T7: the same fire in ReceiveFrame under both values of TIMEOUT_ANY_STATE. -/
theorem test_timeout_receiveFrame :
    (after (exec .timeout lastBitDue)).map (fun t => (t.state, t.deadlineArmed)) = some (.receiveFrame, false) ∧
    (after (exec .timeout { lastBitDue with params := anyState })).map (fun t => (t.state, t.bitCount)) =
      some (.idle, 31) := by decide

/-- E22: the 32nd bit completes the frame {0x00, 0x12, 0}. -/
theorem test_edgeHigh_lastBit :
    (after (exec (.edgeHigh 2600) lastBitDue)).map (fun t => (t.state, t.shiftRegister, t.frame, t.hasUnreadFrame)) =
      some (.waitEnd, 0xED12FF00, ⟨0x00, 0x12, false⟩, true) := by decide

/-- E12: the repeat space keeps the payload. -/
theorem test_edgeHigh_repeat :
    (after (exec (.edgeHigh 3250) { inState .addressOrRepeat true with frame := ⟨0x00, 0x12, false⟩ })).map
      (fun t => (t.state, t.frame, t.hasUnreadFrame)) = some (.waitEnd, ⟨0x00, 0x12, true⟩, true) := by decide

/-- E9: a start mark one microsecond too long. -/
theorem test_edgeLow_startMark :
    (after (exec (.edgeLow 10501) (inState .waitForStart true))).map
      (fun t => (t.state, t.out.timerCancel, t.out.diagCode, t.out.diagDelta)) = some (.idle, true, 2, 9501) := by decide

/-- E16: a LOW edge in AddressOrRepeat after the deadline has fired pulses no cancel. -/
theorem test_edgeLow_noCancel :
    (after (exec (.edgeLow 1600) (inState .addressOrRepeat false))).map
      (fun t => (t.state, t.out.timerCancel, t.out.diagCode)) = some (.idle, false, 1) := by decide

/-- N1: a NOP cycle. -/
theorem test_nop : (after (step (lastBitDue.withFetchWord 8 0))).map (fun t => (t.state, t.bitCount)) =
    some (.receiveFrame, 31) := by decide

/-- K5: a TAKE in the cycle of an emission returns the earlier slot, and the new result stays pending. -/
theorem test_take_in_emission_cycle :
    (after (runCycle (Inputs.ofCtl 0b01011 2600)
      { lastBitDue with hasUnreadFrame := true, frame := ⟨0x01, 0x02, false⟩ })).map
      (fun t => (t.out.takeValid, t.out.takeAddress, t.frame, t.hasUnreadFrame)) =
      some (true, 0x01, ⟨0x00, 0x12, false⟩, true) := by decide

/-- T11: a deadline and a HIGH edge in one cycle. -/
theorem test_timeout_then_edge :
    (after (runCycle (Inputs.ofCtl 0b00111 5000) (inState .waitForStart true))).map
      (fun t => (t.state, t.deadlineArmed, t.out.timerArm, t.out.diagCode)) =
      some (.waitForStart, true, true, 5) := by decide

/-- R39: an unreachable code recovers in one cycle. -/
theorem test_unreachable :
    (after (runCycle (Inputs.ofCtl 0b00011 5000) (inState .unreachable6 true))).map
      (fun t => (t.state, t.deadlineArmed, t.out.timerCancel, t.lastEdgeTimestamp)) =
      some (.idle, false, false, 1000) := by decide

/-! ### The trace syntax (R80, R82, R83) and the host record (S10) -/

theorem test_parse_edge : parseLine ['E', 'D', 'G', 'E', ' ', 'H', ' ', '@', '1', '0', '0', '0'] =
    .ok (.single (.edge true (.absolute 1000))) := by decide
theorem test_parse_frame :
    parseLine ['a', ':', 'F', 'R', 'A', 'M', 'E', ' ', '1', ',', '0', 'x', '5', 'A', ',', '2', ';', '!'] =
      .ok (.frame 1 0x5A 2) := by decide
theorem test_parse_group :
    parseLine [Char.ofNat 123, 'T', 'A', 'K', 'E', ',', 'E', 'D', 'G', 'E', ' ', 'L', ' ', '+', '9', Char.ofNat 125] =
      .ok (.group [.take, .edge false (.relative 9)]) := by decide
theorem test_trace_group_cycle :
    (traceCycles Params.default
      [.single (.edge true (.absolute 1000)), .group [.take, .edge false (.relative 9000)]]).toOption =
      some [Inputs.ofCtl 0b00011 0x3E8, Inputs.ofCtl 0b01010 0x2710] := by decide
theorem test_trace_reset_in_group :
    (traceCycles Params.default [.group [.take, .reset]]).toOption = none := by decide
theorem test_frame_word : frameWord 0x00 0x12 = 0xED12FF00 := by decide
theorem test_host_record :
    hostRecord { defaultOutputs State.reset with takeValid := true, takeCommand := 0x12, takeRepeated := true } =
      some [0x00, 0x00, 0x12, 0x01] := by decide
theorem test_edges_monotonic :
    edgesMonotonic 0 [Inputs.ofCtl 0b00011 5, Inputs.ofCtl 0b00010 4] = false := by decide
theorem test_boots_with_reset : bootsWithReset [Inputs.ofCtl 0b10000 0] = true := by decide

/-! ### Witnesses for the hypotheses of the obligations -/

/-- A quiet cycle with one strobe set. -/
def strobe (ctl : Ctl) : Inputs := Inputs.ofCtl ctl 2600

theorem witness_wellFormedCycle : cycleWellFormed [.take, .timeout, .edgeHigh 7] = true := by decide
theorem witness_ignoredInputs : (strobe 0b01101).edgeValid = false ∧ (strobe 0b10011).rst = true ∧
    (strobe 0b11111).rst = true ∧ (strobe 0b00111).rst = false ∧ (inState .addressOrRepeat false).deadlineArmed = false := by
  decide
theorem witness_resetCycle : (strobe 0b11111).rst = true := by decide
theorem witness_nopCycle : (strobe 0b00001).rst = false ∧ (strobe 0b00001).takeReq = false ∧
    (strobe 0b00001).timerFire = false ∧ (strobe 0b00001).edgeValid = false ∧
    (inState .waitEnd true).state.isLegal = true := by decide
theorem witness_emission : (strobe 0b01011).rst = false ∧ (strobe 0b01011).takeReq = true ∧
    (emission (strobe 0b01011) lastBitDue).isSome = true ∧ (emission (strobe 0b01000) lastBitDue).isSome = false := by
  decide
theorem witness_noEmission : State.reset.hasUnreadFrame = false ∧
    (observe [strobe 0b01000, strobe 0b01011] State.reset).1 = [] := by decide
theorem witness_takenFrames : (observe [strobe 0b00011, strobe 0b01000] lastBitDue).2 = [⟨0x00, 0x12, false⟩] := by decide
theorem witness_staleFire : (inState .addressOrRepeat false).deadlineArmed = false := by decide
theorem witness_honouredFire_forces :
    (inState .waitForStart true).state.isLegal = true ∧ (inState .waitForStart true).deadlineArmed = true ∧
    (inState .waitForStart true).state = .waitForStart ∧
    (anyState.timeoutAnyState = true ∧ (inState .waitEnd true).state ≠ .idle) := by decide
theorem witness_honouredFire_consumes : (inState .waitEnd true).state.isLegal = true ∧
    (inState .waitEnd true).deadlineArmed = true ∧
    ¬ ((inState .waitEnd true).state = .waitForStart ∨
      ((inState .waitEnd true).params.timeoutAnyState = true ∧ (inState .waitEnd true).state ≠ .idle)) := by decide
theorem witness_inv_waitForStart : Inv (inState .waitForStart true) ∧ (inState .waitForStart true).state = .waitForStart :=
  ⟨⟨by decide, by decide, by decide, by decide, by decide, by decide⟩, rfl⟩
theorem witness_inv_lastBit : Inv lastBitDue ∧ LowBitsClear lastBitDue ∧ ∃ t, step (present [strobe 0b00011] lastBitDue) = .next t :=
  ⟨⟨by decide, by decide, by decide, by decide, by decide, by decide⟩, by intro _; decide, ⟨_, rfl⟩⟩
theorem witness_entryIdle : (inState .waitEnd true).deadlineArmed = true ∧ (inState .waitEnd false).deadlineArmed = false := by
  decide
theorem witness_idle : (inState .idle false).state = .idle := by decide
theorem witness_ignoredEdges : (inState .idle false).state = .idle ∧ (inState .receiveFrame true).state = .receiveFrame ∧
    (inState .waitEnd true).state = .waitEnd := by decide
theorem witness_wrongLevel : (inState .waitForStart true).state = .waitForStart ∧
    (inState .addressOrRepeat true).state = .addressOrRepeat := by decide
theorem witness_startMark : (inState .waitForStart true).state = .waitForStart ∧
    isStartMark Params.default (9500 - (inState .waitForStart true).lastEdgeTimestamp) = true ∧
    isStartMark Params.default (9499 - (inState .waitForStart true).lastEdgeTimestamp) = false := by decide
theorem witness_spaces : (inState .addressOrRepeat true).state = .addressOrRepeat ∧
    classifyAfterStart Params.default (6000 - (inState .addressOrRepeat true).lastEdgeTimestamp) = .frameSpace ∧
    classifyAfterStart Params.default (2750 - (inState .addressOrRepeat true).lastEdgeTimestamp) = .repeatSpace ∧
    classifyAfterStart Params.default (2749 - (inState .addressOrRepeat true).lastEdgeTimestamp) = .noMatch := by decide
theorem witness_bits : (inState .receiveFrame true).state = .receiveFrame ∧
    classifyBit Params.default (1249 - (inState .receiveFrame true).lastEdgeTimestamp) = .noBit ∧
    classifyBit Params.default (1250 - (inState .receiveFrame true).lastEdgeTimestamp) = .bit false ∧
    classifyBit Params.default (2850 - (inState .receiveFrame true).lastEdgeTimestamp) = .bit true ∧
    (inState .receiveFrame true).bitCount + 1 ≠ 32 := by decide
theorem witness_lastBit : lastBitDue.state = .receiveFrame ∧ lastBitDue.bitCount + 1 = 32 ∧
    classifyBit lastBitDue.params (2600 - lastBitDue.lastEdgeTimestamp) = .bit true ∧
    (0xED12FF00 : FrameWord) = (lastBitDue.shiftRegister >>> 1) ||| ((BitVec.ofBool true).setWidth 32 <<< 31) ∧
    ((0xED12FF00 : FrameWord).extractLsb' 16 8 + (0xED12FF00 : FrameWord).extractLsb' 24 8 = 0xFF ∧
      (0xED12FF00 : FrameWord).extractLsb' 0 8 + (0xED12FF00 : FrameWord).extractLsb' 8 8 = 0xFF) := by decide
theorem witness_lastBit_mismatch : classifyBit lastBitDue.params (1500 - lastBitDue.lastEdgeTimestamp) = .bit false ∧
    (0x6D12FF00 : FrameWord) = (lastBitDue.shiftRegister >>> 1) ||| ((BitVec.ofBool false).setWidth 32 <<< 31) ∧
    ¬ ((0x6D12FF00 : FrameWord).extractLsb' 16 8 + (0x6D12FF00 : FrameWord).extractLsb' 24 8 = 0xFF ∧
      (0x6D12FF00 : FrameWord).extractLsb' 0 8 + (0x6D12FF00 : FrameWord).extractLsb' 8 8 = 0xFF) := by decide
theorem witness_waitEnd : (inState .waitEnd false).state = .waitEnd := by decide
theorem witness_everyEdge : (strobe 0b00011).rst = false ∧ (strobe 0b00011).edgeValid = true ∧
    (inState .receiveFrame true).state.isLegal = true ∧ (strobe 0b01100).rst = false ∧ (strobe 0b01100).edgeValid = false := by
  decide
theorem witness_operationClasses : (Instr.timeout ≠ .take) ∧ (Instr.timeout ≠ .reset) ∧ Instr.timeout.isEdge = false ∧
    (∀ ts, Instr.timeout ≠ .edgeHigh ts) :=
  ⟨by decide, by decide, rfl, fun _ h => nomatch h⟩
theorem witness_diagnostic : (after (runCycle (strobe 0b00011) (inState .waitForStart true))).map
    (fun t => (t.out.diagValid, t.out.diagCode)) = some (true, 1) := by decide
theorem witness_checksumDiagnostic : (after (runCycle (Inputs.ofCtl 0b00011 1500) lastBitDue)).map
    (fun t => (t.out.diagValid, t.out.diagCode, t.state)) = some (true, 4, .waitEnd) := by decide
theorem witness_pending : (present [strobe 0b00011] State.reset).pending = [strobe 0b00011] ∧ State.reset.pending = [] := by
  decide
theorem witness_oneOperation : opsOfInputs (nextInputs (present [strobe 0b00011] State.reset)) = [.edgeHigh 2600] := by decide
theorem witness_fixedOrder :
    ∃ sTake sTimeout : State,
      (if (strobe 0b01111).takeReq then exec .take (beginCycle lastBitDue) else .next (beginCycle lastBitDue)) = .next sTake ∧
      (if (strobe 0b01111).timerFire then exec .timeout sTake else .next sTake) = .next sTimeout :=
  ⟨_, _, rfl, rfl⟩
theorem witness_unreachable : (inState .unreachable5 true).state.isLegal = false ∧ (strobe 0b01011).rst = false ∧
    (inState .idle false).state.isLegal = true := by decide
theorem witness_timeoutDiagnostic : (inState .waitForStart true).out.diagValid = false ∧
    (after (exec .timeout (inState .waitForStart true))).map (fun t => t.out.diagValid) = some true := by decide
theorem witness_noPulse : (strobe 0b01001).edgeValid = false ∧ (strobe 0b01001).timerFire = false ∧
    (strobe 0b10111).rst = true := by decide
theorem witness_timestamps : (1000 : Micros).toNat ≤ (1000 : Micros).toNat ∧ (500 : Micros).toNat < (1000 : Micros).toNat ∧
    (1000 : Micros).toNat - (500 : Micros).toNat < 2 ^ 64 - 9500 := by decide
theorem witness_bitList : (List.replicate 32 true).length = 32 := by decide
theorem witness_timerService : (inState .waitForStart true).state.isLegal = true ∧
    (({ due := some 100000 } : TimerService).due.isSome = (inState .waitForStart true).deadlineArmed) ∧
    ({ due := some 100000 } : TimerService).keepsContract (strobe 0b00100) 100000 = true ∧
    ({ due := some 100000 } : TimerService).keepsContract (strobe 0b00100) 99999 = false := by decide
theorem witness_agreeButTimestamp :
    (inState .idle false).state = .idle ∧
    AgreeButTimestamp (inState .idle false) { inState .idle false with lastEdgeTimestamp := 5 } :=
  ⟨by decide, rfl⟩
theorem witness_agreeButAccumulator :
    (inState .addressOrRepeat true).state ≠ .receiveFrame ∧
    AgreeButAccumulator (inState .addressOrRepeat true) { inState .addressOrRepeat true with bitCount := 9 } :=
  ⟨by decide, rfl⟩
theorem witness_fullFrame : (inState .idle false).state = .idle ∧ (inState .idle false).params.wellFormed = true ∧
    (inState .idle false).params.startMarkUs < 2 ^ 64 ∧ (inState .idle false).params.startSpaceUs < 2 ^ 64 ∧
    (inState .idle false).params.bit1SpaceUs < 2 ^ 64 ∧ (inState .idle false).params.repeatSpaceUs < 2 ^ 64 ∧
    frameValid 0xED12FF00 = true ∧ frameValid 0xED12FE00 = false := by decide
theorem witness_frameOfAnotherBuild : ({ anyState with longTolUs := 400, bit1SpaceUs := 1700 } : Params).wellFormed = true := by
  decide
theorem witness_operationPorts : (∀ ts, (Instr.edgeLow 3) ≠ .edgeHigh ts) ∧ Instr.timeout.isEdge = false :=
  ⟨fun _ => nofun, rfl⟩
theorem witness_hostRecord : (defaultOutputs State.reset).takeValid = false ∧
    ({ defaultOutputs State.reset with takeValid := true, takeRepeated := true } : Outputs).takeValid = true := by decide

end Sys2Proof.Tests
end

/-! The window test and R13's conditions, each said once as arithmetic, and what they give together: disjoint classes. -/

namespace Sys2Proof

/-- R13, conditions (a), (b) and (c) in its order. -/
theorem Params.wellFormed_iff (p : Params) :
    p.wellFormed = true ↔
      (p.longTolUs ≤ p.startMarkUs ∧ p.longTolUs ≤ p.startSpaceUs ∧ p.longTolUs ≤ p.repeatSpaceUs ∧
        p.bitTolUs ≤ p.bit0SpaceUs ∧ p.bitTolUs ≤ p.bit1SpaceUs) ∧
      (p.bit0SpaceUs : Int) + p.bitTolUs < (p.bit1SpaceUs : Int) - p.bitTolUs ∧
      (p.repeatSpaceUs : Int) + p.longTolUs < (p.startSpaceUs : Int) - p.longTolUs := by
  rw [Params.wellFormed, Params.error]
  split_ifs with ha hb hc
  · exact iff_of_false (by decide) (by omega)
  · exact iff_of_true (by decide) (by omega)
  · exact iff_of_false (by decide) fun h => hc h.2.2
  · exact iff_of_false (by decide) fun h => hb h.2.1

end Sys2Proof

namespace Sys2Proof.Machine

open Sys2Proof

/-- The bounds of a window are inclusive (R161, R162). -/
theorem inRange_iff (d : Micros) (target tol : Nat) :
    inRange d target tol = true ↔ (target : Int) - tol ≤ d.toNat ∧ (d.toNat : Int) ≤ target + tol := by
  simp [inRange]

/-- An interval in the lower of two separated windows is below the other one. -/
theorem inRange_disjoint {low high tol : Nat} (hsep : (low : Int) + tol < (high : Int) - tol) (d : Micros) :
    ¬ (inRange d low tol = true ∧ inRange d high tol = true) := by
  rintro ⟨hlow, hhigh⟩
  have hupper := ((inRange_iff d low tol).mp hlow).2
  have hlower := ((inRange_iff d high tol).mp hhigh).1
  exact absurd (hsep.trans_le hlower) hupper.not_gt

/-- Settles O41: R13 (b) separates the bit windows and R13 (c) the space windows, the repeat space being the lower one. -/
theorem parameterConditionsMakeWindowsDisjoint : Obligations.ParameterConditionsMakeWindowsDisjoint := by
  unfold Obligations.ParameterConditionsMakeWindowsDisjoint
  refine ⟨by decide, fun p d hp => ?_⟩
  obtain ⟨-, hbits, hspaces⟩ := p.wellFormed_iff.mp hp
  exact ⟨inRange_disjoint hbits d, fun ⟨hframe, hrepeat⟩ => inRange_disjoint hspaces d ⟨hrepeat, hframe⟩⟩

end Sys2Proof.Machine

/-! The shared layer of the state's statements: what TIMEOUT and an EDGE can do in a legal state, said once, and a cycle as what
comes before its EDGE, the EDGE, and the recovery. -/

namespace Sys2Proof.Machine

open Sys2Proof

/-! ### The registers each operation decides -/

/-- What completing a frame writes besides the slot and the diagnostic port (41_frame_assembly R136). -/
theorem completeFrame_registers (dt : Micros) (s : State) :
    (completeFrame dt s).state = .waitEnd ∧ (completeFrame dt s).indicator = s.indicator ∧
      (completeFrame dt s).bitCount = s.bitCount ∧ (completeFrame dt s).deadlineArmed = s.deadlineArmed ∧
      (completeFrame dt s).out.timerArm = s.out.timerArm ∧
      (completeFrame dt s).out.timerCancel = s.out.timerCancel := by
  cases hvalid : frameValid s.shiftRegister with
  | true => simp [completeFrame_valid dt s hvalid]
  | false => simp [completeFrame_invalid dt s hvalid]

/-! ### What TIMEOUT can do -/

/-- TIMEOUT in a legal state: stale, forcing Idle, or only consuming the deadline (43_deadline_guard R181 to R183). -/
theorem timeoutOp_cases (s : State) (hlegal : s.state.isLegal = true) :
    (s.deadlineArmed = false ∧ timeoutOp s = s) ∨
    (s.deadlineArmed = true ∧ s.state ≠ .waitForStart ∧ timeoutOp s = consumeDeadline s) ∨
    (s.deadlineArmed = true ∧ s.state ≠ .idle ∧
      timeoutOp s = takeError .startTimeout 0 (consumeDeadline s)) := by
  cases harmed : s.deadlineArmed with
  | false => exact .inl ⟨rfl, timeoutOp_stale s harmed⟩
  | true =>
    have hhonoured : timeoutOp s =
        if timeoutForcesIdle s then takeError .startTimeout 0 (consumeDeadline s) else consumeDeadline s := by
      rw [timeoutOp, harmed, hlegal]; rfl
    rw [hhonoured]
    cases hforces : timeoutForcesIdle s with
    | true => exact .inr (.inr ⟨rfl, fun hidle => by simp [timeoutForcesIdle, hidle] at hforces, rfl⟩)
    | false => exact .inr (.inl ⟨rfl, fun hwait => by simp [timeoutForcesIdle, hwait] at hforces, rfl⟩)

/-- After TIMEOUT in a legal state nothing is outstanding. -/
theorem timeoutOp_deadlineArmed (s : State) (hlegal : s.state.isLegal = true) :
    (timeoutOp s).deadlineArmed = false := by
  obtain ⟨hstale, heq⟩ | ⟨-, -, heq⟩ | ⟨-, -, heq⟩ := timeoutOp_cases s hlegal
  · rw [heq, hstale]
  · rw [heq, consumeDeadline_deadlineArmed]
  · rw [heq, takeError_eq]

/-- TIMEOUT drives neither timer request (R225). -/
theorem timeoutOp_timerPulses (s : State) :
    (timeoutOp s).out.timerArm = s.out.timerArm ∧ (timeoutOp s).out.timerCancel = s.out.timerCancel := by
  unfold timeoutOp
  split_ifs <;> simp [takeError_eq]

/-- TIMEOUT keeps the state or enters Idle. -/
theorem timeoutOp_state (s : State) : (timeoutOp s).state = s.state ∨ (timeoutOp s).state = .idle := by
  unfold timeoutOp
  split_ifs <;> simp [takeError_eq]

/-! ### What an EDGE can do -/

/-- The cells of the state table (40_edge_fsm R102 to R111), with their guards: what an EDGE of interval `dt` can make of a
state before it records its timestamp. -/
inductive CellOutcome (dt : Micros) (s : State) : State → Prop where
  /-- An ignored edge (R103, R106, R109, R110). -/
  | ignored : CellOutcome dt s s
  /-- The first edge of a start mark (R102). -/
  | start (hstate : s.state = .idle) : CellOutcome dt s (enterWaitForStart s)
  /-- InvalidStartLevel (R104, R107). -/
  | wrongLevel (hstate : s.state = .waitForStart ∨ s.state = .addressOrRepeat) :
      CellOutcome dt s (takeError .invalidStartLevel dt s)
  /-- InvalidStartTiming (R105). -/
  | wrongMark (hstate : s.state = .waitForStart) (hmark : isStartMark s.params dt = false) :
      CellOutcome dt s (takeError .invalidStartTiming dt s)
  /-- A start mark in its window (R105). -/
  | mark (hstate : s.state = .waitForStart) (hmark : isStartMark s.params dt = true) :
      CellOutcome dt s (setState .addressOrRepeat s)
  /-- The space of a full frame (R106). -/
  | frameSpace (hstate : s.state = .addressOrRepeat) (hclass : classifyAfterStart s.params dt = .frameSpace) :
      CellOutcome dt s (setState .receiveFrame (clearAccumulator s))
  /-- The space of a repeat code (R106). -/
  | repeatSpace (hstate : s.state = .addressOrRepeat) (hclass : classifyAfterStart s.params dt = .repeatSpace) :
      CellOutcome dt s (setState .waitEnd (emitRepeat s))
  /-- InvalidBitTiming (R108). -/
  | wrongBit (hstate : s.state = .receiveFrame) (hclass : classifyBit s.params dt = .noBit) :
      CellOutcome dt s (takeError .invalidBitTiming dt s)
  /-- A bit short of the 32nd (R108). -/
  | bit (b : Bool) (hstate : s.state = .receiveFrame) (hclass : classifyBit s.params dt = .bit b)
      (hcount : s.bitCount + 1 ≠ 32) : CellOutcome dt s (shiftIn b s)
  /-- The 32nd bit (R108, R136). -/
  | lastBit (b : Bool) (hstate : s.state = .receiveFrame) (hclass : classifyBit s.params dt = .bit b)
      (hcount : s.bitCount + 1 = 32) : CellOutcome dt s (completeFrame dt (shiftIn b s))
  /-- The normal end (R111). -/
  | finish (hstate : s.state = .waitEnd) : CellOutcome dt s (enterIdle s)

/-- EDGE_HIGH in a legal state runs one cell of the table, then records its timestamp (R101). -/
theorem edgeHigh_cell (ts : Micros) (s : State) (hlegal : s.state.isLegal = true) :
    ∃ u, CellOutcome (delta s ts) s u ∧ edgeHigh ts s = recordEdge ts u := by
  cases hstate : s.state with
  | idle => exact ⟨_, .start hstate, edgeHigh_idle ts s hstate⟩
  | waitForStart => exact ⟨_, .wrongLevel (.inl hstate), edgeHigh_waitForStart ts s hstate⟩
  | addressOrRepeat =>
    rw [edgeHigh_addressOrRepeat ts s hstate]
    cases hclass : classifyAfterStart s.params (delta s ts) with
    | frameSpace => exact ⟨_, .frameSpace hstate hclass, by rw [edgeAddressOrRepeatHigh_frame _ _ hclass]⟩
    | repeatSpace => exact ⟨_, .repeatSpace hstate hclass, by rw [edgeAddressOrRepeatHigh_repeat _ _ hclass]⟩
    | noMatch => exact ⟨_, .ignored, by rw [edgeAddressOrRepeatHigh_noMatch _ _ hclass]⟩
  | receiveFrame =>
    rw [edgeHigh_receiveFrame ts s hstate]
    cases hclass : classifyBit s.params (delta s ts) with
    | noBit => exact ⟨_, .wrongBit hstate hclass, by rw [edgeReceiveFrameHigh_noBit _ _ hclass]⟩
    | bit b =>
      rw [edgeReceiveFrameHigh_bit _ _ b hclass]
      by_cases hcount : s.bitCount + 1 = 32
      · exact ⟨_, .lastBit b hstate hclass hcount, by rw [acceptBit_last _ _ _ hcount]⟩
      · exact ⟨_, .bit b hstate hclass hcount, by rw [acceptBit_more _ _ _ hcount]⟩
  | waitEnd => exact ⟨_, .ignored, edgeHigh_waitEnd ts s hstate⟩
  | unreachable5 | unreachable6 | unreachable7 => rw [hstate] at hlegal; cases hlegal

/-- EDGE_LOW in a legal state runs one cell of the table, then records its timestamp (R101). -/
theorem edgeLow_cell (ts : Micros) (s : State) (hlegal : s.state.isLegal = true) :
    ∃ u, CellOutcome (delta s ts) s u ∧ edgeLow ts s = recordEdge ts u := by
  cases hstate : s.state with
  | idle => exact ⟨_, .ignored, edgeLow_idle ts s hstate⟩
  | waitForStart =>
    rw [edgeLow_waitForStart ts s hstate]
    cases hmark : isStartMark s.params (delta s ts) with
    | true => exact ⟨_, .mark hstate hmark, by rw [edgeWaitForStartLow_inWindow _ _ hmark]⟩
    | false => exact ⟨_, .wrongMark hstate hmark, by rw [edgeWaitForStartLow_outOfWindow _ _ hmark]⟩
  | addressOrRepeat => exact ⟨_, .wrongLevel (.inr hstate), edgeLow_addressOrRepeat ts s hstate⟩
  | receiveFrame => exact ⟨_, .ignored, edgeLow_receiveFrame ts s hstate⟩
  | waitEnd => exact ⟨_, .finish hstate, edgeLow_waitEnd ts s hstate⟩
  | unreachable5 | unreachable6 | unreachable7 => rw [hstate] at hlegal; cases hlegal

/-- The EDGE sub-step of a cycle in a legal state: no EDGE, or one cell of the table and the timestamp. -/
theorem edgePart_cases (i : Inputs) (s : State) (hlegal : s.state.isLegal = true) :
    (i.edgeValid = false ∧ edgePart i s = s) ∨
    ∃ u, CellOutcome (delta s i.edgeTs) s u ∧ edgePart i s = recordEdge i.edgeTs u := by
  cases hvalid : i.edgeValid with
  | false => exact .inl ⟨rfl, by simp [edgePart, hvalid]⟩
  | true =>
    cases hlevel : i.edgeLevel with
    | true => exact .inr (by simpa [edgePart, hvalid, hlevel] using edgeHigh_cell i.edgeTs s hlegal)
    | false => exact .inr (by simpa [edgePart, hvalid, hlevel] using edgeLow_cell i.edgeTs s hlegal)

/-! ### A cycle by its parts -/

/-- A cycle that answers `t` leaves `t`. -/
theorem runCycle_eq_next_iff (i : Inputs) (s t : State) : runCycle i s = .next t ↔ cycleResult i s = t := by
  rw [runCycle_eq, Host.Outcome.next.injEq]

/-- A step is the cycle of the sampled inputs (30_encoding R70). -/
theorem step_eq (s : State) : step s = .next (cycleResult (nextInputs s) (afterSampling s)) :=
  runCycle_eq _ _

/-- The state an EDGE of the cycle meets: the default outputs, TAKE and TIMEOUT done (45_control R222). -/
def beforeEdge (i : Inputs) (s : State) : State := timeoutPart i (takePart i (beginCycle s))

/-- A cycle without RESET: what comes before the EDGE, the EDGE, the recovery (R222). -/
theorem cycleResult_edge (i : Inputs) (s : State) (hrst : i.rst = false) :
    cycleResult i s = recoverUnreachable (edgePart i (beforeEdge i s)) :=
  cycleResult_parts i s hrst

/-- TAKE leaves the deadline, the state and the timer ports alone (44_consumer_read R200). -/
theorem takePart_keeps (i : Inputs) (s : State) :
    (takePart i s).state = s.state ∧ (takePart i s).deadlineArmed = s.deadlineArmed ∧
      (takePart i s).out.timerArm = s.out.timerArm ∧ (takePart i s).out.timerCancel = s.out.timerCancel := by
  unfold takePart
  split_ifs
  · exact ⟨rfl, rfl, rfl, rfl⟩
  · exact ⟨rfl, rfl, rfl, rfl⟩

/-- Before its EDGE a cycle has kept the state or entered Idle. -/
theorem beforeEdge_state (i : Inputs) (s : State) :
    (beforeEdge i s).state = s.state ∨ (beforeEdge i s).state = .idle := by
  have htake := (takePart_keeps i (beginCycle s)).1
  rw [beforeEdge, timeoutPart]
  split_ifs
  · rw [← beginCycle_state s, ← htake]; exact timeoutOp_state _
  · exact .inl htake

/-- A property of legal states that RESET gives and TAKE, TIMEOUT and every cell of the state table keep holds after every
cycle that starts with it. -/
theorem cycleResult_keeps {P : State → Prop} (hlegal : ∀ u, P u → u.state.isLegal = true)
    (hreset : ∀ u, P (resetRegisters u)) (htake : ∀ u, P u → P (takeOp u)) (htimeout : ∀ u, P u → P (timeoutOp u))
    (hcell : ∀ dt ts u v, P u → CellOutcome dt u v → P (recordEdge ts v)) (i : Inputs) (s : State)
    (hbegin : P (beginCycle s)) : P (cycleResult i s) := by
  cases hrst : i.rst with
  | true => rw [cycleResult_reset i s hrst]; exact hreset _
  | false =>
    have htaken : P (takePart i (beginCycle s)) := by
      unfold takePart
      split_ifs
      · exact htake _ hbegin
      · exact hbegin
    have hbefore : P (beforeEdge i s) := by
      unfold beforeEdge timeoutPart
      split_ifs
      · exact htimeout _ htaken
      · exact htaken
    have hedge : P (edgePart i (beforeEdge i s)) := by
      obtain ⟨-, heq⟩ | ⟨u, hu, heq⟩ := edgePart_cases i _ (hlegal _ hbefore)
      · rw [heq]; exact hbefore
      · rw [heq]; exact hcell _ _ _ _ hbefore hu
    rw [cycleResult_edge i s hrst, recoverUnreachable_legal _ (hlegal _ hedge)]
    exact hedge

end Sys2Proof.Machine

/-! The invariants of R40: RESET and each operation give or keep them. -/

namespace Sys2Proof.Machine

open Sys2Proof

/-- The invariants speak of four registers. -/
theorem Inv.of_registers {s u : State} (h : Inv s) (hstate : u.state = s.state)
    (harmed : u.deadlineArmed = s.deadlineArmed) (hindicator : u.indicator = s.indicator)
    (hcount : u.bitCount = s.bitCount) : Inv u := by
  obtain ⟨legal, idleDisarmed, indicatorOn, receiveCount, countBound, waitArmed⟩ := h
  rw [← hstate, ← hcount] at receiveCount
  rw [← hstate, ← harmed] at idleDisarmed waitArmed
  rw [← hstate, ← hindicator] at indicatorOn
  rw [← hstate] at legal
  rw [← hcount] at countBound
  exact ⟨legal, idleDisarmed, indicatorOn, receiveCount, countBound, waitArmed⟩

/-- A machine at rest in Idle meets the invariants. -/
theorem inv_of_idle {u : State} (hstate : u.state = .idle) (harmed : u.deadlineArmed = false)
    (hindicator : u.indicator = false) (hcount : u.bitCount.toNat ≤ 32) : Inv u where
  legal := by rw [hstate]; rfl
  idleDisarmed _ := harmed
  indicatorOn := by simp [hstate, hindicator]
  receiveCount h := by rw [hstate] at h; cases h
  countBound := hcount
  waitArmed h := by rw [hstate] at h; cases h

/-- A machine past the start mark, its indicator on, meets the invariants where its count does. -/
theorem inv_of_active {u : State} (hlegal : u.state.isLegal = true) (hidle : u.state ≠ .idle)
    (hwait : u.state ≠ .waitForStart) (hindicator : u.indicator = true)
    (hreceive : u.state = .receiveFrame → u.bitCount.toNat ≤ 31) (hcount : u.bitCount.toNat ≤ 32) : Inv u where
  legal := hlegal
  idleDisarmed h := absurd h hidle
  indicatorOn := iff_of_true hindicator hidle
  receiveCount := hreceive
  countBound := hcount
  waitArmed h := absurd h hwait

theorem inv_resetRegisters (s : State) : Inv (resetRegisters s) :=
  inv_of_idle rfl rfl rfl (Nat.zero_le _)

theorem inv_enterIdle {s : State} (h : Inv s) : Inv (enterIdle s) := by
  rw [enterIdle_eq]
  exact inv_of_idle rfl rfl rfl h.countBound

theorem inv_takeError {s : State} (hcount : s.bitCount.toNat ≤ 32) (d : Diag) (dt : Micros) :
    Inv (takeError d dt s) := by
  rw [takeError_eq]
  exact inv_of_idle rfl rfl rfl hcount

theorem Inv.takeOp {s : State} (h : Inv s) : Inv (takeOp s) :=
  h.of_registers rfl rfl rfl rfl

/-- Consuming the deadline is safe outside WaitForStart, where R40 item 6 asks for it. -/
theorem Inv.consumeDeadline {s : State} (h : Inv s) (hwait : s.state ≠ .waitForStart) : Inv (consumeDeadline s) where
  legal := h.legal
  idleDisarmed _ := rfl
  indicatorOn := h.indicatorOn
  receiveCount := h.receiveCount
  countBound := h.countBound
  waitArmed hstate := absurd hstate hwait

theorem Inv.timeoutOp {s : State} (h : Inv s) : Inv (timeoutOp s) := by
  obtain ⟨-, heq⟩ | ⟨-, hwait, heq⟩ | ⟨-, -, heq⟩ := timeoutOp_cases s h.legal
  · rw [heq]; exact h
  · rw [heq]; exact h.consumeDeadline hwait
  · rw [heq]; exact inv_takeError (s := Machine.consumeDeadline s) h.countBound _ _

/-- Each cell of the state table keeps the invariants. -/
theorem Inv.cellOutcome {dt : Micros} {s u : State} (h : Inv s) (hcell : CellOutcome dt s u) : Inv u := by
  have hon (hidle : s.state ≠ .idle) : s.indicator = true := h.indicatorOn.mpr hidle
  cases hcell with
  | ignored => exact h
  | start => exact ⟨rfl, nofun, by simp [enterWaitForStart_eq], nofun, h.countBound, fun _ => rfl⟩
  | wrongLevel | wrongMark | wrongBit => exact inv_takeError h.countBound _ _
  | mark hstate => exact inv_of_active rfl nofun nofun (hon (by simp [hstate])) nofun h.countBound
  | frameSpace hstate =>
    exact inv_of_active rfl nofun nofun (hon (by simp [hstate])) (fun _ => Nat.zero_le _) (Nat.zero_le _)
  | repeatSpace hstate => exact inv_of_active rfl nofun nofun (hon (by simp [hstate])) nofun h.countBound
  | bit b hstate _ hcount =>
    have hshort : (shiftIn b s).bitCount.toNat ≤ 31 := by
      have hbound := h.receiveCount hstate
      rw [shiftIn_bitCount]
      bv_omega
    exact inv_of_active h.legal (by simp [hstate]) (by simp [hstate]) (hon (by simp [hstate])) (fun _ => hshort)
      (hshort.trans (by decide))
  | lastBit b hstate _ hcount =>
    obtain ⟨hend, hindicator, hbits, -⟩ := completeFrame_registers dt (shiftIn b s)
    have hfull : (completeFrame dt (shiftIn b s)).bitCount = 32 := hbits.trans hcount
    exact inv_of_active (by rw [hend]; rfl) (by simp [hend]) (by simp [hend])
      (hindicator.trans (hon (by simp [hstate]))) (by simp [hend]) (by rw [hfull]; decide)
  | finish => exact inv_enterIdle h

/-- A cycle keeps the invariants, whatever its inputs. -/
theorem Inv.cycleResult {s : State} (h : Inv s) (i : Inputs) : Inv (cycleResult i s) :=
  cycleResult_keeps (fun _ hu => hu.legal) inv_resetRegisters (fun _ hu => hu.takeOp) (fun _ hu => hu.timeoutOp)
    (fun _ _ _ _ hu hcell => (hu.cellOutcome hcell).of_registers rfl rfl rfl rfl) i s (h.of_registers rfl rfl rfl rfl)

/-- Sampling the inputs writes no register. -/
theorem Inv.afterSampling {s : State} (h : Inv s) : Inv (afterSampling s) := by
  unfold Machine.afterSampling
  split
  · exact h.of_registers rfl rfl rfl rfl
  · exact h.of_registers rfl rfl rfl rfl

/-- Settles O48: a step is sampling and a cycle, and both keep the invariants. -/
theorem everyStepKeepsTheInvariants : Obligations.EveryStepKeepsTheInvariants := by
  unfold Obligations.EveryStepKeepsTheInvariants
  intro s t hinv hstep
  rw [step_eq, Host.Outcome.next.injEq] at hstep
  exact hstep ▸ hinv.afterSampling.cycleResult _

/-- Settles O47: the reset state is what RESET leaves of it; in Idle no bit is due. -/
theorem resetStateMeetsTheInvariants : Obligations.ResetStateMeetsTheInvariants := by
  unfold Obligations.ResetStateMeetsTheInvariants
  exact ⟨inv_resetRegisters State.reset, fun hreceive => nomatch hreceive⟩

/-- Settles O6: the reset values of R38, read off the record. -/
theorem resetStateHoldsTheResetValues : Obligations.ResetStateHoldsTheResetValues := by
  unfold Obligations.ResetStateHoldsTheResetValues
  exact ⟨rfl, rfl, rfl, rfl, rfl, rfl, rfl, rfl, rfl, rfl⟩

end Sys2Proof.Machine

/-! Unreachable codes (10_state R39), the deadline bit under the timer contract (R40 item 7), and what cannot be observed
(R37, R41). -/

namespace Sys2Proof.Machine

open Sys2Proof

/-! ### Legal states stay legal -/

/-- Each cell of the state table leads from a legal state to a legal one. -/
theorem CellOutcome.isLegal {dt : Micros} {s u : State} (hcell : CellOutcome dt s u)
    (hlegal : s.state.isLegal = true) : u.state.isLegal = true := by
  cases hcell with
  | ignored | bit => exact hlegal
  | start | mark | frameSpace | repeatSpace => rfl
  | wrongLevel | wrongMark | wrongBit => rw [takeError_eq]; rfl
  | lastBit b => rw [(completeFrame_registers dt (shiftIn b s)).1]; rfl
  | finish => rw [enterIdle_eq]; rfl

/-- A state that is kept or entered anew as Idle stays legal. -/
theorem isLegal_of_kept_or_idle {x y : DecoderState} (h : y = x ∨ y = .idle) (hlegal : x.isLegal = true) :
    y.isLegal = true := by
  obtain rfl | rfl := h
  · exact hlegal
  · rfl

/-- A cycle keeps a legal state legal (R39). -/
theorem cycleResult_isLegal (i : Inputs) (s : State) (hlegal : s.state.isLegal = true) :
    (cycleResult i s).state.isLegal = true :=
  cycleResult_keeps (P := fun u => u.state.isLegal = true) (fun _ hu => hu) (fun _ => rfl) (fun _ hu => hu)
    (fun u hu => isLegal_of_kept_or_idle (timeoutOp_state u) hu) (fun _ _ _ _ hu hcell => hcell.isLegal hu) i s hlegal

/-- Before its EDGE a cycle has kept a legal state legal. -/
theorem beforeEdge_isLegal (i : Inputs) (s : State) (hlegal : s.state.isLegal = true) :
    (beforeEdge i s).state.isLegal = true :=
  isLegal_of_kept_or_idle (beforeEdge_state i s) hlegal

/-! ### Unreachable codes -/

/-- In an unreachable code nothing but TAKE acts before the recovery (R39). -/
theorem cycleResult_unreachable (i : Inputs) (s : State) (hstate : s.state.isLegal = false) (hrst : i.rst = false) :
    cycleResult i s = recoverUnreachable (takePart i (beginCycle s)) := by
  have htake : (takePart i (beginCycle s)).state.isLegal = false := by
    rw [(takePart_keeps i (beginCycle s)).1]; exact hstate
  have htimeout : timeoutPart i (takePart i (beginCycle s)) = takePart i (beginCycle s) := by
    rw [timeoutPart, timeoutOp_unreachable _ htake, ite_self]
  have hedge : edgePart i (takePart i (beginCycle s)) = takePart i (beginCycle s) := by
    rw [edgePart, edgeHigh_unreachable _ _ htake, edgeLow_unreachable _ _ htake, ite_self, ite_self]
  rw [cycleResult_parts i s hrst, htimeout, hedge]

/-- Settles O32: operations keep legal states legal; in an unreachable code only TAKE acts, then the recovery. -/
theorem unreachableStatesRecoverInOneCycle : Obligations.UnreachableStatesRecoverInOneCycle := by
  unfold Obligations.UnreachableStatesRecoverInOneCycle
  refine ⟨rfl, fun i s t hlegal hrun => ?_, fun i s hstate hrst => ?_⟩
  · rw [runCycle_eq_next_iff] at hrun
    exact hrun ▸ cycleResult_isLegal i s hlegal
  · rw [runCycle_eq_next_iff, cycleResult_unreachable i s hstate hrst, takePart]
    cases htake : i.takeReq with
    | true => exact recoverUnreachable_unreachable _ hstate
    | false => exact recoverUnreachable_unreachable _ hstate

/-! ### The deadline bit -/

/-- Across a cell of the table the deadline bit follows the timer requests it pulses (R26, R184, R185). -/
theorem CellOutcome.deadlineArmed {dt : Micros} {s u : State} (hcell : CellOutcome dt s u)
    (harm : s.out.timerArm = false) (hcancel : s.out.timerCancel = false) :
    u.deadlineArmed = (u.out.timerArm || (s.deadlineArmed && !u.out.timerCancel)) := by
  cases hcell with
  | ignored | bit | mark | frameSpace | repeatSpace => simp [harm, hcancel]
  | start => simp [enterWaitForStart_eq]
  | wrongLevel | wrongMark | wrongBit => simp [takeError_eq, harm, hcancel]
  | lastBit b =>
    obtain ⟨-, -, -, hdeadline, harm', hcancel'⟩ := completeFrame_registers dt (shiftIn b s)
    simp [hdeadline, harm', hcancel', harm, hcancel]
  | finish => simp [enterIdle_eq, harm, hcancel]

/-- Across the EDGE of a cycle the deadline bit follows the timer requests. -/
theorem edgePart_deadlineArmed (i : Inputs) {s : State} (hlegal : s.state.isLegal = true)
    (harm : s.out.timerArm = false) (hcancel : s.out.timerCancel = false) :
    (edgePart i s).deadlineArmed =
      ((edgePart i s).out.timerArm || (s.deadlineArmed && !(edgePart i s).out.timerCancel)) := by
  obtain ⟨-, heq⟩ | ⟨u, hcell, heq⟩ := edgePart_cases i s hlegal
  · simp [heq, harm, hcancel]
  · rw [heq]
    exact hcell.deadlineArmed harm hcancel

/-- Before its EDGE a cycle has pulsed no timer request. -/
theorem beforeEdge_timerPulses (i : Inputs) (s : State) :
    (beforeEdge i s).out.timerArm = false ∧ (beforeEdge i s).out.timerCancel = false := by
  obtain ⟨-, -, harm, hcancel⟩ := takePart_keeps i (beginCycle s)
  rw [beforeEdge, timeoutPart]
  split_ifs
  · obtain ⟨harm', hcancel'⟩ := timeoutOp_timerPulses (takePart i (beginCycle s))
    exact ⟨harm'.trans harm, hcancel'.trans hcancel⟩
  · exact ⟨harm, hcancel⟩

/-- Before its EDGE a cycle has consumed the deadline exactly where it fired (R181). -/
theorem beforeEdge_deadlineArmed (i : Inputs) (s : State) (hlegal : s.state.isLegal = true) :
    (beforeEdge i s).deadlineArmed = (s.deadlineArmed && !i.timerFire) := by
  obtain ⟨hstate, harmed, -⟩ := takePart_keeps i (beginCycle s)
  rw [beforeEdge, timeoutPart]
  cases hfire : i.timerFire with
  | true => simpa using timeoutOp_deadlineArmed (takePart i (beginCycle s)) (by rw [hstate]; exact hlegal)
  | false => simpa using harmed

/-- A cycle without RESET from a legal state ends with its EDGE: there is nothing to recover. -/
theorem cycleResult_edge_of_legal (i : Inputs) (s : State) (hlegal : s.state.isLegal = true) (hrst : i.rst = false) :
    cycleResult i s = edgePart i (beforeEdge i s) := by
  have hbefore := beforeEdge_isLegal i s hlegal
  rw [cycleResult_edge i s hrst]
  obtain ⟨-, heq⟩ | ⟨u, hcell, heq⟩ := edgePart_cases i _ hbefore
  · rw [heq, recoverUnreachable_legal _ hbefore]
  · rw [heq]
    exact recoverUnreachable_legal _ (hcell.isLegal hbefore)

/-- A cycle without RESET from a legal state: an arm sets the deadline bit, a fire or a cancel clears it. -/
theorem cycleResult_deadlineArmed (i : Inputs) (s : State) (hlegal : s.state.isLegal = true) (hrst : i.rst = false) :
    (cycleResult i s).deadlineArmed =
      ((cycleResult i s).out.timerArm ||
        (s.deadlineArmed && !i.timerFire && !(cycleResult i s).out.timerCancel)) := by
  have hbefore := beforeEdge_isLegal i s hlegal
  obtain ⟨harm, hcancel⟩ := beforeEdge_timerPulses i s
  rw [cycleResult_edge_of_legal i s hlegal hrst, ← beforeEdge_deadlineArmed i s hlegal]
  exact edgePart_deadlineArmed i hbefore harm hcancel

/-- The timer service's side of a cycle without RESET (60_exceptions R255). -/
theorem TimerService.afterCycle_isSome (svc : TimerService) (i : Inputs) (o : Outputs) (now : Nat)
    (hrst : i.rst = false) :
    (svc.afterCycle i o now).due.isSome =
      (o.timerArm || (svc.due.isSome && !i.timerFire && !o.timerCancel)) := by
  unfold TimerService.afterCycle
  cases o.timerArm <;> cases o.timerCancel <;> cases i.timerFire <;> simp [hrst]

/-- A service that keeps its contract fires for an outstanding deadline only (R255). -/
theorem TimerService.isSome_of_fire {svc : TimerService} {i : Inputs} {now : Nat}
    (hkeeps : svc.keepsContract i now = true) (hfire : i.timerFire = true) : svc.due.isSome = true := by
  cases hdue : svc.due with
  | none => simp [TimerService.keepsContract, TimerService.mayFire, hfire, hdue] at hkeeps
  | some d => rfl

/-- Settles O51: the deadline bit and the service's deadline follow the same arm, fire and cancel; RESET ends both. -/
theorem deadlineBitAgreesWithTheTimerService : Obligations.DeadlineBitAgreesWithTheTimerService := by
  unfold Obligations.DeadlineBitAgreesWithTheTimerService
  intro i s t svc now hlegal hagree hkeeps hrun
  obtain rfl := (runCycle_eq_next_iff i s t).mp hrun
  refine ⟨?_, fun hfire => hagree ▸ TimerService.isSome_of_fire hkeeps hfire⟩
  cases hrst : i.rst with
  | true => rw [cycleResult_reset i s hrst]; simp [TimerService.afterCycle, hrst, resetRegisters]
  | false => rw [svc.afterCycle_isSome _ _ _ hrst, cycleResult_deadlineArmed i s hlegal hrst, hagree]

/-! ### Updates that nothing before the EDGE sees -/

/-- An update that the default outputs, TAKE and TIMEOUT neither see nor undo, and that no error looks at. -/
structure HiddenUpdate (f : State → State) : Prop where
  params (u : State) : (f u).params = u.params
  state (u : State) : (f u).state = u.state
  deadlineArmed (u : State) : (f u).deadlineArmed = u.deadlineArmed
  beginCycle (u : State) : beginCycle (f u) = f (beginCycle u)
  takeOp (u : State) : takeOp (f u) = f (takeOp u)
  consumeDeadline (u : State) : consumeDeadline (f u) = f (consumeDeadline u)
  takeError (d : Diag) (dt : Micros) (u : State) : takeError d dt (f u) = f (takeError d dt u)

/-- TIMEOUT neither sees nor undoes a hidden update. -/
theorem HiddenUpdate.timeoutOp {f : State → State} (hf : HiddenUpdate f) (u : State) :
    timeoutOp (f u) = f (timeoutOp u) := by
  unfold Machine.timeoutOp timeoutForcesIdle
  rw [hf.params, hf.state, hf.deadlineArmed]
  split_ifs
  · rw [hf.consumeDeadline, hf.takeError]
  · exact hf.consumeDeadline u
  · rfl

/-- Before its EDGE a cycle neither sees nor undoes a hidden update. -/
theorem HiddenUpdate.beforeEdge {f : State → State} (hf : HiddenUpdate f) (i : Inputs) (s : State) :
    beforeEdge i (f s) = f (beforeEdge i s) := by
  have htake (u : State) : takePart i (f u) = f (takePart i u) := by
    unfold takePart
    split_ifs
    · exact hf.takeOp u
    · rfl
  unfold Machine.beforeEdge timeoutPart
  rw [hf.beginCycle, htake]
  split_ifs
  · exact hf.timeoutOp _
  · rfl

/-! ### The baseline timestamp in Idle -/

/-- Only an EDGE reads the baseline (10_state R23, R41). -/
theorem hiddenUpdate_recordEdge (x : Micros) : HiddenUpdate (recordEdge x) where
  params _ := rfl
  state _ := rfl
  deadlineArmed _ := rfl
  beginCycle _ := rfl
  takeOp _ := rfl
  consumeDeadline _ := rfl
  takeError d dt u := by rw [takeError_eq, takeError_eq]; rfl

/-- Machines that agree but for the baseline become the same once it is written. -/
theorem AgreeButTimestamp.exists_recordEdge {s t : State} (h : AgreeButTimestamp s t) :
    ∃ x, t = recordEdge x s :=
  ⟨t.lastEdgeTimestamp, (congrArg (recordEdge t.lastEdgeTimestamp) h).symm⟩

/-- In Idle an EDGE does not read the baseline, and overwrites it (40_edge_fsm R101 to R103). -/
theorem edgePart_recordEdge_of_idle (x : Micros) (i : Inputs) (s : State) (hidle : s.state = .idle)
    (hvalid : i.edgeValid = true) : edgePart i (recordEdge x s) = edgePart i s := by
  have hidle' : (recordEdge x s).state = .idle := hidle
  simp only [edgePart, hvalid, if_true]
  split_ifs
  · rw [edgeHigh_idle _ _ hidle, edgeHigh_idle _ _ hidle']; rfl
  · rw [edgeLow_idle _ _ hidle, edgeLow_idle _ _ hidle']; rfl

/-- A cycle from Idle is in Idle when its EDGE comes. -/
theorem beforeEdge_idle (i : Inputs) (s : State) (hidle : s.state = .idle) : (beforeEdge i s).state = .idle :=
  (beforeEdge_state i s).elim (·.trans hidle) id

/-- An EDGE or RESET in Idle makes machines alike that differ in the baseline only (R41). -/
theorem cycleResult_recordEdge_of_edge_or_reset (x : Micros) (i : Inputs) (s : State) (hidle : s.state = .idle)
    (h : i.edgeValid = true ∨ i.rst = true) : cycleResult i (recordEdge x s) = cycleResult i s := by
  cases hrst : i.rst with
  | true => rw [cycleResult_reset _ _ hrst, cycleResult_reset _ _ hrst]; rfl
  | false =>
    have hvalid : i.edgeValid = true := by simpa [hrst] using h
    rw [cycleResult_edge _ _ hrst, cycleResult_edge _ _ hrst, (hiddenUpdate_recordEdge x).beforeEdge,
      edgePart_recordEdge_of_idle x i _ (beforeEdge_idle i s hidle) hvalid]

/-- A cycle without EDGE and RESET from Idle stays there. -/
theorem cycleResult_of_no_edge_of_idle (i : Inputs) (s : State) (hidle : s.state = .idle)
    (hvalid : i.edgeValid = false) (hrst : i.rst = false) : cycleResult i s = beforeEdge i s := by
  rw [cycleResult_edge_of_legal i s (by rw [hidle]; rfl) hrst]
  simp [edgePart, hvalid]

/-- Settles O52: an EDGE in Idle overwrites the baseline unread, RESET clears it, and nothing else of a cycle sees it. -/
theorem baselineIsUnobservableInIdle : Obligations.BaselineIsUnobservableInIdle := by
  unfold Obligations.BaselineIsUnobservableInIdle
  intro i s t hidle hagree
  obtain ⟨x, rfl⟩ := hagree.exists_recordEdge
  refine ⟨_, _, runCycle_eq i s, runCycle_eq i _, ?_⟩
  by_cases h : i.edgeValid = true ∨ i.rst = true
  · rw [cycleResult_recordEdge_of_edge_or_reset x i s hidle h]
    exact ⟨rfl, fun _ => rfl, fun _ => rfl⟩
  · obtain ⟨hvalid, hrst⟩ : i.edgeValid = false ∧ i.rst = false := by simpa using h
    rw [cycleResult_of_no_edge_of_idle i s hidle hvalid hrst,
      cycleResult_of_no_edge_of_idle i (recordEdge x s) hidle hvalid hrst, (hiddenUpdate_recordEdge x).beforeEdge]
    exact ⟨rfl, fun hedge => absurd hedge h, fun hleft => absurd (beforeEdge_idle i s hidle) hleft⟩

/-! ### The accumulator outside ReceiveFrame -/

/-- The accumulator overwritten, everything else left (10_state R37). -/
def setAccumulator (w : FrameWord) (n : BitVec 8) (s : State) : State :=
  { s with shiftRegister := w, bitCount := n }

/-- Only an EDGE reads the accumulator (R37). -/
theorem hiddenUpdate_setAccumulator (w : FrameWord) (n : BitVec 8) : HiddenUpdate (setAccumulator w n) where
  params _ := rfl
  state _ := rfl
  deadlineArmed _ := rfl
  beginCycle _ := rfl
  takeOp _ := rfl
  consumeDeadline _ := rfl
  takeError d dt u := by rw [takeError_eq, takeError_eq]; rfl

/-- Machines that agree but for the accumulator become the same once it is written. -/
theorem AgreeButAccumulator.exists_setAccumulator {s t : State} (h : AgreeButAccumulator s t) :
    ∃ w n, t = setAccumulator w n s :=
  ⟨t.shiftRegister, t.bitCount, (congrArg (setAccumulator t.shiftRegister t.bitCount) h).symm⟩

/-- Alike from outside: at most the accumulator differs, and not in ReceiveFrame, where it would show (R37). -/
def AlikeOutside (s t : State) : Prop :=
  AgreeButAccumulator s t ∧ (s.state = .receiveFrame → s = t)

section

variable (w : FrameWord) (n : BitVec 8) (ts dt : Micros) (s : State)

theorem alikeOutside_setAccumulator (hstate : s.state ≠ .receiveFrame) : AlikeOutside s (setAccumulator w n s) :=
  ⟨rfl, fun h => absurd h hstate⟩

/-- Entering Idle leaves machines alike, whatever their accumulators. -/
theorem alikeOutside_enterIdle :
    AlikeOutside (recordEdge ts (enterIdle s)) (recordEdge ts (enterIdle (setAccumulator w n s))) := by
  rw [enterIdle_eq, enterIdle_eq]
  exact ⟨rfl, nofun⟩

/-- An error leaves machines alike, whatever their accumulators. -/
theorem alikeOutside_takeError (d : Diag) :
    AlikeOutside (recordEdge ts (takeError d dt s)) (recordEdge ts (takeError d dt (setAccumulator w n s))) :=
  alikeOutside_enterIdle w n ts (raiseDiag d dt s)

/-- HIGH in AddressOrRepeat: a frame space clears both accumulators, and no other space reads them (R106). -/
theorem alikeOutside_edgeAddressOrRepeatHigh (hstate : s.state = .addressOrRepeat) :
    AlikeOutside (recordEdge ts (edgeAddressOrRepeatHigh dt s))
      (recordEdge ts (edgeAddressOrRepeatHigh dt (setAccumulator w n s))) := by
  cases hclass : classifyAfterStart s.params dt with
  | frameSpace =>
    rw [edgeAddressOrRepeatHigh_frame dt s hclass, edgeAddressOrRepeatHigh_frame dt (setAccumulator w n s) hclass]
    exact ⟨rfl, fun _ => rfl⟩
  | repeatSpace =>
    rw [edgeAddressOrRepeatHigh_repeat dt s hclass, edgeAddressOrRepeatHigh_repeat dt (setAccumulator w n s) hclass]
    exact ⟨rfl, nofun⟩
  | noMatch =>
    rw [edgeAddressOrRepeatHigh_noMatch dt s hclass, edgeAddressOrRepeatHigh_noMatch dt (setAccumulator w n s) hclass]
    exact alikeOutside_setAccumulator w n (recordEdge ts s) (by simp [hstate])

/-- LOW in WaitForStart: neither the window nor the error reads the accumulator (R105). -/
theorem alikeOutside_edgeWaitForStartLow :
    AlikeOutside (recordEdge ts (edgeWaitForStartLow dt s))
      (recordEdge ts (edgeWaitForStartLow dt (setAccumulator w n s))) := by
  cases hmark : isStartMark s.params dt with
  | true =>
    rw [edgeWaitForStartLow_inWindow dt s hmark, edgeWaitForStartLow_inWindow dt (setAccumulator w n s) hmark]
    exact ⟨rfl, nofun⟩
  | false =>
    rw [edgeWaitForStartLow_outOfWindow dt s hmark, edgeWaitForStartLow_outOfWindow dt (setAccumulator w n s) hmark]
    exact alikeOutside_takeError w n ts dt s _

/-- EDGE_HIGH outside ReceiveFrame leaves machines alike that differ in the accumulator only. -/
theorem alikeOutside_edgeHigh (hstate : s.state ≠ .receiveFrame) :
    AlikeOutside (edgeHigh ts s) (edgeHigh ts (setAccumulator w n s)) := by
  cases hcell : s.state with
  | idle =>
    rw [edgeHigh_idle ts s hcell, edgeHigh_idle ts (setAccumulator w n s) hcell]
    exact ⟨rfl, nofun⟩
  | waitForStart =>
    rw [edgeHigh_waitForStart ts s hcell, edgeHigh_waitForStart ts (setAccumulator w n s) hcell]
    exact alikeOutside_takeError w n ts (delta s ts) s _
  | addressOrRepeat =>
    rw [edgeHigh_addressOrRepeat ts s hcell, edgeHigh_addressOrRepeat ts (setAccumulator w n s) hcell]
    exact alikeOutside_edgeAddressOrRepeatHigh w n ts (delta s ts) s hcell
  | receiveFrame => exact absurd hcell hstate
  | waitEnd =>
    rw [edgeHigh_waitEnd ts s hcell, edgeHigh_waitEnd ts (setAccumulator w n s) hcell]
    exact alikeOutside_setAccumulator w n (recordEdge ts s) hstate
  | unreachable5 | unreachable6 | unreachable7 =>
    have hillegal : s.state.isLegal = false := by rw [hcell]; rfl
    rw [edgeHigh_unreachable ts s hillegal, edgeHigh_unreachable ts (setAccumulator w n s) hillegal]
    exact alikeOutside_setAccumulator w n s hstate

/-- EDGE_LOW outside ReceiveFrame leaves machines alike that differ in the accumulator only. -/
theorem alikeOutside_edgeLow (hstate : s.state ≠ .receiveFrame) :
    AlikeOutside (edgeLow ts s) (edgeLow ts (setAccumulator w n s)) := by
  cases hcell : s.state with
  | idle =>
    rw [edgeLow_idle ts s hcell, edgeLow_idle ts (setAccumulator w n s) hcell]
    exact alikeOutside_setAccumulator w n (recordEdge ts s) hstate
  | waitForStart =>
    rw [edgeLow_waitForStart ts s hcell, edgeLow_waitForStart ts (setAccumulator w n s) hcell]
    exact alikeOutside_edgeWaitForStartLow w n ts (delta s ts) s
  | addressOrRepeat =>
    rw [edgeLow_addressOrRepeat ts s hcell, edgeLow_addressOrRepeat ts (setAccumulator w n s) hcell]
    exact alikeOutside_takeError w n ts (delta s ts) s _
  | receiveFrame => exact absurd hcell hstate
  | waitEnd =>
    rw [edgeLow_waitEnd ts s hcell, edgeLow_waitEnd ts (setAccumulator w n s) hcell]
    exact alikeOutside_enterIdle w n ts s
  | unreachable5 | unreachable6 | unreachable7 =>
    have hillegal : s.state.isLegal = false := by rw [hcell]; rfl
    rw [edgeLow_unreachable ts s hillegal, edgeLow_unreachable ts (setAccumulator w n s) hillegal]
    exact alikeOutside_setAccumulator w n s hstate

/-- The EDGE of a cycle outside ReceiveFrame leaves machines alike that differ in the accumulator only. -/
theorem alikeOutside_edgePart (i : Inputs) (hstate : s.state ≠ .receiveFrame) :
    AlikeOutside (edgePart i s) (edgePart i (setAccumulator w n s)) := by
  unfold edgePart
  split_ifs
  · exact alikeOutside_edgeHigh w n i.edgeTs s hstate
  · exact alikeOutside_edgeLow w n i.edgeTs s hstate
  · exact alikeOutside_setAccumulator w n s hstate

/-- The recovery from an unreachable code leaves alike machines alike (R39). -/
theorem AlikeOutside.recoverUnreachable {u v : State} (h : AlikeOutside u v) :
    AlikeOutside (recoverUnreachable u) (recoverUnreachable v) := by
  obtain ⟨w, n, rfl⟩ := h.1.exists_setAccumulator
  cases hlegal : u.state.isLegal with
  | true =>
    rw [recoverUnreachable_legal u hlegal, recoverUnreachable_legal (setAccumulator w n u) hlegal]
    exact h
  | false =>
    rw [recoverUnreachable_unreachable u hlegal, recoverUnreachable_unreachable (setAccumulator w n u) hlegal]
    exact ⟨rfl, nofun⟩

/-- A cycle outside ReceiveFrame leaves machines alike that differ in the accumulator only. -/
theorem alikeOutside_cycleResult (i : Inputs) (hstate : s.state ≠ .receiveFrame) :
    AlikeOutside (cycleResult i s) (cycleResult i (setAccumulator w n s)) := by
  cases hrst : i.rst with
  | true =>
    rw [cycleResult_reset i s hrst, cycleResult_reset i (setAccumulator w n s) hrst]
    exact ⟨rfl, nofun⟩
  | false =>
    have hbefore : (beforeEdge i s).state ≠ .receiveFrame := by
      obtain heq | heq := beforeEdge_state i s
      · rw [heq]; exact hstate
      · rw [heq]; nofun
    rw [cycleResult_edge i s hrst, cycleResult_edge i (setAccumulator w n s) hrst,
      (hiddenUpdate_setAccumulator w n).beforeEdge]
    exact (alikeOutside_edgePart w n _ i hbefore).recoverUnreachable

end

/-- Settles O53: outside ReceiveFrame no operation reads the accumulator, and the frame space, the one way in, clears it. -/
theorem accumulatorIsUnobservableOutsideReceiveFrame : Obligations.AccumulatorIsUnobservableOutsideReceiveFrame := by
  unfold Obligations.AccumulatorIsUnobservableOutsideReceiveFrame
  intro i s t hstate hagree
  obtain ⟨w, n, rfl⟩ := hagree.exists_setAccumulator
  exact ⟨_, _, runCycle_eq i s, runCycle_eq i _, alikeOutside_cycleResult w n s i hstate⟩

end Sys2Proof.Machine

/-! The result slot over a cycle (20_memory R57 to R60): which operations write it, what a cycle leaves in it and what TAKE
shows of it, and from that what a consumer sees over a list of cycles. -/

namespace Sys2Proof.Machine

open Sys2Proof

/-! ### One write of the slot -/

/-- The four `take_*` ports: `take_valid` and the payload next to it (44_consumer_read R200, R202). -/
def takePorts (o : Outputs) : Bool × DecodedFrame :=
  (o.takeValid, { address := o.takeAddress, command := o.takeCommand, repeated := o.takeRepeated })

theorem taken_eq_takePorts (o : Outputs) : taken o = if (takePorts o).1 then some (takePorts o).2 else none := rfl

/-- From `s` to `t` the slot is written by the emission `e`, where there is one, and by nothing else; the `take_*` ports stay
as they are (R57). -/
structure SlotWritten (e : Option DecodedFrame) (s t : State) : Prop where
  flag : t.hasUnreadFrame = (e.isSome || s.hasUnreadFrame)
  payload : t.frame = e.getD s.frame
  ports : takePorts t.out = takePorts s.out

theorem SlotWritten.refl (s : State) : SlotWritten none s s := ⟨rfl, rfl, rfl⟩

/-- A step that leaves the slot alone can follow a write. -/
theorem SlotWritten.trans_none {e : Option DecodedFrame} {s t u : State} (h : SlotWritten e s t)
    (hkeep : SlotWritten none t u) : SlotWritten e s u :=
  ⟨hkeep.flag.trans h.flag, hkeep.payload.trans h.payload, hkeep.ports.trans h.ports⟩

/-- A step that leaves the slot alone can precede a write. -/
theorem SlotWritten.none_trans {e : Option DecodedFrame} {s t u : State} (hkeep : SlotWritten none s t)
    (h : SlotWritten e t u) : SlotWritten e s u :=
  ⟨by rw [h.flag, hkeep.flag]; rfl, by rw [h.payload, hkeep.payload]; rfl, h.ports.trans hkeep.ports⟩

theorem slotWritten_recordEdge (ts : Micros) (s : State) : SlotWritten none s (recordEdge ts s) := ⟨rfl, rfl, rfl⟩

theorem slotWritten_consumeDeadline (s : State) : SlotWritten none s (consumeDeadline s) := ⟨rfl, rfl, rfl⟩

theorem slotWritten_enterIdle (s : State) : SlotWritten none s (enterIdle s) := by
  rw [enterIdle_eq]
  exact ⟨rfl, rfl, rfl⟩

theorem slotWritten_takeError (d : Diag) (dt : Micros) (s : State) : SlotWritten none s (takeError d dt s) := by
  rw [takeError_eq]
  exact ⟨rfl, rfl, rfl⟩

theorem slotWritten_recoverUnreachable (s : State) : SlotWritten none s (recoverUnreachable s) := by
  unfold recoverUnreachable
  split_ifs
  · exact .refl s
  · exact ⟨rfl, rfl, rfl⟩

theorem slotWritten_timeoutOp (s : State) : SlotWritten none s (timeoutOp s) := by
  unfold timeoutOp
  split_ifs
  · exact (slotWritten_consumeDeadline s).trans_none (slotWritten_takeError _ _ _)
  · exact slotWritten_consumeDeadline s
  · exact .refl s

/-! ### The slot across an EDGE -/

/-- EDGE_LOW emits nothing (45_control R224). -/
theorem slotWritten_edgeLow (ts : Micros) (s : State) : SlotWritten none s (edgeLow ts s) := by
  cases hstate : s.state with
  | idle => rw [edgeLow_idle ts s hstate]; exact slotWritten_recordEdge ts s
  | waitForStart =>
    rw [edgeLow_waitForStart ts s hstate, edgeWaitForStartLow]
    split_ifs
    · exact ⟨rfl, rfl, rfl⟩
    · exact (slotWritten_takeError _ _ s).trans_none (slotWritten_recordEdge ts _)
  | addressOrRepeat =>
    rw [edgeLow_addressOrRepeat ts s hstate]
    exact (slotWritten_takeError _ _ s).trans_none (slotWritten_recordEdge ts _)
  | receiveFrame => rw [edgeLow_receiveFrame ts s hstate]; exact slotWritten_recordEdge ts s
  | waitEnd =>
    rw [edgeLow_waitEnd ts s hstate]
    exact (slotWritten_enterIdle s).trans_none (slotWritten_recordEdge ts _)
  | unreachable5 | unreachable6 | unreachable7 =>
    rw [edgeLow_unreachable ts s (by rw [hstate]; rfl)]
    exact .refl s

/-- Only AddressOrRepeat and ReceiveFrame emit. -/
theorem emission_eq_none (i : Inputs) (s : State) (haddress : stateAtEdge i s ≠ .addressOrRepeat)
    (hreceive : stateAtEdge i s ≠ .receiveFrame) : emission i s = none := by
  unfold emission
  rw [ite_eq_left_iff]
  intro
  split
  · contradiction
  · contradiction
  all_goals rfl

/-- No emission without a HIGH edge (R19, R224). -/
theorem emission_eq_none_of_not_high (i : Inputs) (s : State) (h : i.rst = true ∨ ¬ i.edgeValid ∨ ¬ i.edgeLevel) :
    emission i s = none :=
  if_pos h

section
variable {i : Inputs} (hrst : i.rst = false) (hvalid : i.edgeValid = true) (hlevel : i.edgeLevel = true) (s : State)
include hrst hvalid hlevel

/-- What a HIGH edge after the start mark emits (R106). -/
theorem emission_addressOrRepeat (hstate : stateAtEdge i s = .addressOrRepeat) :
    emission i s =
      if classifyAfterStart s.params (delta s i.edgeTs) = .repeatSpace then some { s.frame with repeated := true }
      else none := by
  rw [emission, if_neg (by simp [hrst, hvalid, hlevel]), hstate]

/-- What the HIGH edge of a bit emits: nothing short of the 32nd, and then the frame where it is valid (R108, R136). -/
theorem emission_bit (b : Bool) (hstate : stateAtEdge i s = .receiveFrame)
    (hclass : classifyBit s.params (delta s i.edgeTs) = .bit b) :
    emission i s =
      if s.bitCount + 1 = 32 ∧ frameValid (shiftIn b s).shiftRegister then
        some { address := frameAddress (shiftIn b s).shiftRegister
               command := frameCommand (shiftIn b s).shiftRegister, repeated := false }
      else none := by
  rw [emission, if_neg (by simp [hrst, hvalid, hlevel]), hstate]
  simp only [hclass]
  rfl

/-- A HIGH edge in no bit window emits nothing (R108). -/
theorem emission_noBit (hstate : stateAtEdge i s = .receiveFrame)
    (hclass : classifyBit s.params (delta s i.edgeTs) = .noBit) : emission i s = none := by
  rw [emission, if_neg (by simp [hrst, hvalid, hlevel]), hstate]
  simp only [hclass]

/-- The slot after a HIGH edge in AddressOrRepeat (R106, R142). -/
theorem slotWritten_edgeAddressOrRepeatHigh (hstate : stateAtEdge i s = .addressOrRepeat) :
    SlotWritten (emission i s) s (edgeAddressOrRepeatHigh (delta s i.edgeTs) s) := by
  rw [emission_addressOrRepeat hrst hvalid hlevel s hstate]
  cases hclass : classifyAfterStart s.params (delta s i.edgeTs) with
  | frameSpace => rw [edgeAddressOrRepeatHigh_frame _ _ hclass]; exact ⟨rfl, rfl, rfl⟩
  | repeatSpace => rw [edgeAddressOrRepeatHigh_repeat _ _ hclass]; exact ⟨rfl, rfl, rfl⟩
  | noMatch => rw [edgeAddressOrRepeatHigh_noMatch _ _ hclass]; exact .refl s

/-- The slot after a HIGH edge in ReceiveFrame (R108, R136, R140). -/
theorem slotWritten_edgeReceiveFrameHigh (hstate : stateAtEdge i s = .receiveFrame) :
    SlotWritten (emission i s) s (edgeReceiveFrameHigh (delta s i.edgeTs) s) := by
  cases hclass : classifyBit s.params (delta s i.edgeTs) with
  | noBit =>
    rw [emission_noBit hrst hvalid hlevel s hstate hclass, edgeReceiveFrameHigh_noBit _ _ hclass]
    exact slotWritten_takeError _ _ s
  | bit b =>
    rw [emission_bit hrst hvalid hlevel s b hstate hclass, edgeReceiveFrameHigh_bit _ _ b hclass]
    by_cases hcount : s.bitCount + 1 = 32
    · rw [acceptBit_last _ _ _ hcount]
      cases hframe : frameValid (shiftIn b s).shiftRegister with
      | true => rw [completeFrame_valid _ _ hframe, if_pos ⟨hcount, rfl⟩]; exact ⟨rfl, rfl, rfl⟩
      | false => rw [completeFrame_invalid _ _ hframe, if_neg (by simp)]; exact ⟨rfl, rfl, rfl⟩
    · rw [acceptBit_more _ _ _ hcount, if_neg (hcount ·.1)]
      exact ⟨rfl, rfl, rfl⟩

/-- EDGE_HIGH writes the emission of its cycle into the slot, in a cycle whose TIMEOUT has nothing left to force. -/
theorem slotWritten_edgeHigh (hstate : stateAtEdge i s = s.state) :
    SlotWritten (emission i s) s (edgeHigh i.edgeTs s) := by
  have hsilent (haddress : s.state ≠ .addressOrRepeat) (hreceive : s.state ≠ .receiveFrame) : emission i s = none :=
    emission_eq_none i s (hstate ▸ haddress) (hstate ▸ hreceive)
  cases hcell : s.state with
  | idle =>
    rw [hsilent (by simp [hcell]) (by simp [hcell]), edgeHigh_idle _ s hcell]
    exact ⟨rfl, rfl, rfl⟩
  | waitForStart =>
    rw [hsilent (by simp [hcell]) (by simp [hcell]), edgeHigh_waitForStart _ s hcell]
    exact (slotWritten_takeError _ _ s).trans_none (slotWritten_recordEdge _ _)
  | addressOrRepeat =>
    rw [edgeHigh_addressOrRepeat _ s hcell]
    exact (slotWritten_edgeAddressOrRepeatHigh hrst hvalid hlevel s (hstate.trans hcell)).trans_none
      (slotWritten_recordEdge _ _)
  | receiveFrame =>
    rw [edgeHigh_receiveFrame _ s hcell]
    exact (slotWritten_edgeReceiveFrameHigh hrst hvalid hlevel s (hstate.trans hcell)).trans_none
      (slotWritten_recordEdge _ _)
  | waitEnd =>
    rw [hsilent (by simp [hcell]) (by simp [hcell]), edgeHigh_waitEnd _ s hcell]
    exact slotWritten_recordEdge _ s
  | unreachable5 | unreachable6 | unreachable7 =>
    rw [hsilent (by simp [hcell]) (by simp [hcell]), edgeHigh_unreachable _ s (by rw [hcell]; rfl)]
    exact .refl s

end

/-- The EDGE of a cycle writes the cycle's emission into the slot. -/
theorem slotWritten_edgePart (i : Inputs) (s : State) (hrst : i.rst = false) (hstate : stateAtEdge i s = s.state) :
    SlotWritten (emission i s) s (edgePart i s) := by
  unfold edgePart
  split_ifs with hvalid hlevel
  · exact slotWritten_edgeHigh hrst hvalid hlevel s hstate
  · rw [emission_eq_none_of_not_high i s (.inr (.inr hlevel))]
    exact slotWritten_edgeLow _ s
  · rw [emission_eq_none_of_not_high i s (.inr (.inl hvalid))]
    exact .refl s

/-! ### What the EDGE meets -/

/-- The state an EDGE meets, by the two tests of TIMEOUT (R181). -/
theorem stateAtEdge_eq (i : Inputs) (s : State) :
    stateAtEdge i s =
      if i.timerFire ∧ s.deadlineArmed ∧ s.state.isLegal ∧ timeoutForcesIdle s then .idle else s.state := by
  have hforces : (s.state = .waitForStart ∨ (s.params.timeoutAnyState = true ∧ s.state ≠ .idle ∧ s.state.isLegal)) ↔
      s.state.isLegal ∧ timeoutForcesIdle s := by
    cases hcell : s.state <;> simp [timeoutForcesIdle, DecoderState.isLegal, hcell]
  simp only [stateAtEdge, hforces]

/-- The TIMEOUT of a cycle leaves the state its EDGE meets. -/
theorem timeoutPart_state (i : Inputs) (s : State) : (timeoutPart i s).state = stateAtEdge i s := by
  rw [stateAtEdge_eq, timeoutPart]
  split_ifs with hfire hforced hforced
  · obtain ⟨-, harmed, hlegal, hforces⟩ := hforced
    rw [timeoutOp_forces s harmed hlegal hforces]
  · unfold timeoutOp
    split_ifs with hhonoured hforces
    · rw [Bool.and_eq_true] at hhonoured
      exact absurd ⟨hfire, hhonoured.1, hhonoured.2, hforces⟩ hforced
    · rfl
    · rfl
  · exact absurd hforced.1 hfire
  · rfl

/-- Once TIMEOUT is done there is nothing left for it to force: the deadline is consumed, or its fire is ignored. -/
theorem stateAtEdge_timeoutPart (i : Inputs) (s : State) :
    stateAtEdge i (timeoutPart i s) = (timeoutPart i s).state := by
  rw [stateAtEdge_eq, timeoutPart]
  cases hfire : i.timerFire with
  | false => simp
  | true =>
    cases hlegal : s.state.isLegal with
    | true => simp [timeoutOp_deadlineArmed s hlegal]
    | false => simp [timeoutOp_unreachable s hlegal, hlegal]

/-- TIMEOUT leaves what an emission is made of alone (R181). -/
theorem timeoutPart_keeps (i : Inputs) (s : State) :
    (timeoutPart i s).params = s.params ∧ (timeoutPart i s).lastEdgeTimestamp = s.lastEdgeTimestamp ∧
      (timeoutPart i s).shiftRegister = s.shiftRegister ∧ (timeoutPart i s).bitCount = s.bitCount := by
  unfold timeoutPart timeoutOp
  split_ifs <;> simp [takeError_eq]

theorem slotWritten_timeoutPart (i : Inputs) (s : State) : SlotWritten none s (timeoutPart i s) := by
  unfold timeoutPart
  split_ifs
  · exact slotWritten_timeoutOp s
  · exact .refl s

/-- The emission of a cycle is the one its EDGE makes of the state TIMEOUT leaves. -/
theorem emission_timeoutPart (i : Inputs) (s : State) : emission i (timeoutPart i s) = emission i s := by
  obtain ⟨hparams, hlast, hshift, hcount⟩ := timeoutPart_keeps i s
  have hstate : stateAtEdge i (timeoutPart i s) = stateAtEdge i s :=
    (stateAtEdge_timeoutPart i s).trans (timeoutPart_state i s)
  have hframe : (timeoutPart i s).frame = s.frame := (slotWritten_timeoutPart i s).payload
  rw [emission, emission, delta, delta, hstate, hparams, hlast, hshift, hcount, hframe]

/-- TAKE has no say in what the cycle emits (R203). -/
theorem emission_takePart (i : Inputs) (s : State) : emission i (takePart i s) = emission i s := by
  unfold takePart
  split_ifs
  · rfl
  · rfl

/-! ### The slot across a cycle -/

/-- What follows the TAKE of a cycle writes the cycle's emission into the slot, and nothing else (R58, R203). -/
theorem slotWritten_cycleResult (i : Inputs) (s : State) (hrst : i.rst = false) :
    SlotWritten (emission i s) (takePart i (beginCycle s)) (cycleResult i s) := by
  have hemission : emission i (beforeEdge i s) = emission i s :=
    (emission_timeoutPart i _).trans (emission_takePart i (beginCycle s))
  have hedge : SlotWritten (emission i s) (beforeEdge i s) (edgePart i (beforeEdge i s)) :=
    hemission ▸ slotWritten_edgePart i (beforeEdge i s) hrst (stateAtEdge_timeoutPart i _)
  rw [cycleResult_edge i s hrst]
  exact ((slotWritten_timeoutPart i _).none_trans hedge).trans_none (slotWritten_recoverUnreachable _)

/-- The `take_*` ports show the slot from the start of the cycle, and `take_valid` its flag in a TAKE cycle (R200, R202). -/
theorem cycleResult_takePorts (i : Inputs) (s : State) :
    takePorts (cycleResult i s).out = (!i.rst && i.takeReq && s.hasUnreadFrame, s.frame) := by
  cases hrst : i.rst with
  | true => rw [cycleResult_reset i s hrst]; rfl
  | false =>
    rw [(slotWritten_cycleResult i s hrst).ports, takePart]
    cases i.takeReq with
    | true => rfl
    | false => rfl

/-- The flag after a cycle: an emission sets it, TAKE clears it, the emission last (R203). -/
theorem cycleResult_hasUnreadFrame (i : Inputs) (s : State) (hrst : i.rst = false) :
    (cycleResult i s).hasUnreadFrame = ((emission i s).isSome || (!i.takeReq && s.hasUnreadFrame)) := by
  rw [(slotWritten_cycleResult i s hrst).flag, takePart]
  cases i.takeReq with
  | true => rfl
  | false => rfl

/-- The payload after a cycle: the cycle's emission, or what it was (R51, R203). -/
theorem cycleResult_frame (i : Inputs) (s : State) (hrst : i.rst = false) :
    (cycleResult i s).frame = (emission i s).getD s.frame := by
  rw [(slotWritten_cycleResult i s hrst).payload, takePart]
  split_ifs
  · rfl
  · rfl

/-! ### What a consumer sees -/

/-- The frame a slot holds for its consumer: its payload where the flag is set (R27, R200). -/
def unread (s : State) : List DecodedFrame :=
  if s.hasUnreadFrame then [s.frame] else []

/-- What a TAKE of the cycle returns: the unread frame it met. -/
theorem taken_cycleResult (i : Inputs) (s : State) :
    (taken (cycleResult i s).out).toList = if i.rst = false ∧ i.takeReq then unread s else [] := by
  rw [taken_eq_takePorts, cycleResult_takePorts]
  by_cases htake : i.rst = false ∧ i.takeReq
  · rw [if_pos htake, htake.1, htake.2, unread]
    cases s.hasUnreadFrame with
    | true => rfl
    | false => rfl
  · have hnone : (!i.rst && i.takeReq) = false := by simpa using htake
    rw [if_neg htake, hnone]
    rfl

/-- What is unread after a cycle: the cycle's emission, else what was unread unless RESET or TAKE cleared it. -/
theorem unread_cycleResult (i : Inputs) (s : State) :
    unread (cycleResult i s) =
      if i.rst then []
      else if (emission i s).isSome then (emission i s).toList
      else if i.takeReq then [] else unread s := by
  cases hrst : i.rst with
  | true => rw [cycleResult_reset i s hrst]; rfl
  | false =>
    rw [unread, cycleResult_hasUnreadFrame i s hrst, cycleResult_frame i s hrst]
    cases emission i s with
    | some f => rfl
    | none => cases i.takeReq with
      | true => rfl
      | false => rfl

/-- One cycle of R60: what its TAKE returns and what it leaves unread come, in this order, from what was unread before and the
emission. -/
theorem taken_append_unread_sublist (i : Inputs) (s : State) :
    List.Sublist ((taken (cycleResult i s).out).toList ++ unread (cycleResult i s))
      (unread s ++ (emission i s).toList) := by
  rw [taken_cycleResult, unread_cycleResult]
  cases hrst : i.rst with
  | true => simp
  | false =>
    cases hemission : emission i s with
    | some f => cases i.takeReq <;> simp
    | none => cases i.takeReq <;> simp

theorem observe_cons (i : Inputs) (is : List Inputs) (s : State) :
    observe (i :: is) s =
      ((emission i s).toList ++ (observe is (cycleResult i s)).1,
        (taken (cycleResult i s).out).toList ++ (observe is (cycleResult i s)).2) := by
  rw [observe, runCycle_eq]

/-- The frames taken over a list of cycles come, in their order, from what was unread at the start and the emissions. -/
theorem observe_taken_sublist (is : List Inputs) (s : State) :
    List.Sublist (observe is s).2 (unread s ++ (observe is s).1) := by
  induction is generalizing s with
  | nil => exact List.nil_sublist _
  | cons i is ih =>
    have hrest := (ih (cycleResult i s)).append_left (taken (cycleResult i s).out).toList
    have hcycle := (taken_append_unread_sublist i s).append_right (observe is (cycleResult i s)).1
    rw [← List.append_assoc] at hrest
    rw [observe_cons, ← List.append_assoc]
    exact hrest.trans hcycle

/-- Settles O13, cycle by cycle: a frame that is taken was unread or emitted before, and is unread no more. -/
theorem takenFramesAreEmissionsInOrder : Obligations.TakenFramesAreEmissionsInOrder := by
  unfold Obligations.TakenFramesAreEmissionsInOrder
  exact observe_taken_sublist

/-- Settles O12: with nothing unread at the start and nothing emitted, O13's list of candidates is empty. -/
theorem noResultWithoutEmission : Obligations.NoResultWithoutEmission := by
  unfold Obligations.NoResultWithoutEmission
  intro is s hflag hsilent
  have hsublist := observe_taken_sublist is s
  rw [hsilent, unread, if_neg (by simp [hflag])] at hsublist
  exact List.sublist_nil.mp hsublist

end Sys2Proof.Machine

/-! The encoding (30_encoding R74 to R78): a cycle is RESET alone, NOP alone, or its strobes in their order. So what it decodes
to is well formed, and the encoding of a well-formed cycle decodes back. -/

namespace Sys2Proof.Machine

open Sys2Proof

/-! ### The strobes of a cycle -/

/-- The EDGE that a cycle's level and timestamp ports describe (30_encoding R75, R77). -/
def edgeOp (i : Inputs) : Instr :=
  if i.edgeLevel then .edgeHigh i.edgeTs else .edgeLow i.edgeTs

/-- The strobes of a cycle without RESET, in the order they are performed (R76). -/
def strobes (i : Inputs) : List Instr :=
  (if i.takeReq then [.take] else []) ++ (if i.timerFire then [.timeout] else []) ++
    (if i.edgeValid then [edgeOp i] else [])

/-- A cycle carries RESET alone, NOP alone, or its strobes (R75, R76). -/
theorem opsOfInputs_eq_strobes (i : Inputs) :
    opsOfInputs i = if i.rst then [.reset] else if strobes i = [] then [.nop] else strobes i := by
  have hstrobes : strobes i =
      (if i.takeReq then [Instr.take] else []) ++ (if i.timerFire then [Instr.timeout] else []) ++
        (if i.edgeValid && i.edgeLevel then [Instr.edgeHigh i.edgeTs] else []) ++
        (if i.edgeValid && !i.edgeLevel then [Instr.edgeLow i.edgeTs] else []) := by
    cases hvalid : i.edgeValid <;> cases hlevel : i.edgeLevel <;> simp [strobes, edgeOp, hvalid, hlevel]
  rw [opsOfInputs_eq, hstrobes]

theorem opsOfInputs_of_rst {i : Inputs} (hrst : i.rst = true) : opsOfInputs i = [.reset] := by
  rw [opsOfInputs_eq_strobes, if_pos hrst]

theorem opsOfInputs_of_strobes {i : Inputs} (hrst : i.rst = false) (hstrobes : strobes i ≠ []) :
    opsOfInputs i = strobes i := by
  rw [opsOfInputs_eq_strobes, hrst, if_neg Bool.false_ne_true, if_neg hstrobes]

theorem strobes_eq_nil_iff (i : Inputs) :
    strobes i = [] ↔ i.takeReq = false ∧ i.timerFire = false ∧ i.edgeValid = false := by
  simp [strobes]

theorem take_mem_strobes_iff (i : Inputs) : .take ∈ strobes i ↔ i.takeReq = true := by
  cases hlevel : i.edgeLevel <;> simp [strobes, edgeOp, hlevel]

theorem timeout_mem_strobes_iff (i : Inputs) : .timeout ∈ strobes i ↔ i.timerFire = true := by
  cases hlevel : i.edgeLevel <;> simp [strobes, edgeOp, hlevel]

/-- The strobes of a cycle are among one TAKE, one TIMEOUT and one EDGE, in this order. -/
theorem strobes_sublist (i : Inputs) : List.Sublist (strobes i) [.take, .timeout, edgeOp i] := by
  have hpart (c : Bool) (a : Instr) : List.Sublist (if c then [a] else []) [a] := by
    cases c <;> simp
  exact ((hpart i.takeReq _).append (hpart i.timerFire _)).append (hpart i.edgeValid _)

theorem reset_notMem_strobes (i : Inputs) : .reset ∉ strobes i :=
  fun h => by cases hlevel : i.edgeLevel <;> simpa [edgeOp, hlevel] using (strobes_sublist i).subset h

theorem nop_notMem_strobes (i : Inputs) : .nop ∉ strobes i :=
  fun h => by cases hlevel : i.edgeLevel <;> simpa [edgeOp, hlevel] using (strobes_sublist i).subset h

/-! ### Well-formed cycles -/

/-- The operations stand in the order of a cycle: TAKE, TIMEOUT, EDGE, each at most once (45_control R222). -/
def InCycleOrder (ops : List Instr) : Prop :=
  ops.Pairwise fun a b => a.phase < b.phase

theorem phase_le_three (i : Instr) : i.phase ≤ 3 := by
  cases i <;> simp [Instr.phase]

theorem strictlyRising_iff (l : List Nat) : strictlyRising l = true ↔ l.Pairwise (· < ·) := by
  rw [← List.isChain_iff_pairwise]
  induction l with
  | nil => simp [strictlyRising]
  | cons a rest ih => cases rest with
    | nil => simp [strictlyRising]
    | cons b rest => simp [strictlyRising, ih, List.isChain_cons_cons]

/-- The five checks of a cycle, in their order (R73, R75, R222). -/
theorem cycleWellFormed_iff (ops : List Instr) :
    cycleWellFormed ops = true ↔
      ops ≠ [] ∧ (.reset ∈ ops → ops = [.reset]) ∧ (.nop ∈ ops → ops = [.nop]) ∧
        ops.countP Instr.isEdge ≤ 1 ∧ InCycleOrder ops := by
  have horder : strictlyRising (ops.map Instr.phase) = true ↔ InCycleOrder ops := by
    rw [strictlyRising_iff, List.pairwise_map, InCycleOrder]
  rw [← horder, cycleWellFormed, cycleError]
  split_ifs with hempty hreset hnop hedges hrising
  · simp [hempty]
  · simpa using fun _ h => absurd (h hreset.1) hreset.2
  · simpa using fun _ _ h => absurd (h hnop.1) hnop.2
  · simpa using fun _ _ _ h => absurd hedges h.not_gt
  · simp [hrising]
  · exact iff_of_true rfl ⟨hempty, fun h => not_not.mp fun hne => hreset ⟨h, hne⟩,
      fun h => not_not.mp fun hne => hnop ⟨h, hne⟩, not_lt.mp hedges, Bool.not_eq_false _ ▸ hrising⟩

/-- Strobes are well formed as a cycle, unless there is none. -/
theorem cycleWellFormed_strobes (i : Inputs) (h : strobes i ≠ []) : cycleWellFormed (strobes i) = true := by
  obtain ⟨hedges, horder⟩ :
      [.take, .timeout, edgeOp i].countP Instr.isEdge ≤ 1 ∧ InCycleOrder [.take, .timeout, edgeOp i] := by
    cases hlevel : i.edgeLevel <;> simp [edgeOp, hlevel, Instr.isEdge, InCycleOrder, Instr.phase]
  exact (cycleWellFormed_iff _).mpr ⟨h, fun hmem => absurd hmem (reset_notMem_strobes i),
    fun hmem => absurd hmem (nop_notMem_strobes i), (strobes_sublist i).countP_le.trans hedges,
    horder.sublist (strobes_sublist i)⟩

/-- Every cycle decodes to a well-formed one (R76). -/
theorem cycleWellFormed_opsOfInputs (i : Inputs) : cycleWellFormed (opsOfInputs i) = true := by
  rw [opsOfInputs_eq_strobes]
  split_ifs with hrst hstrobes
  · exact Laws.SingleCycle.reset.2.1
  · exact Laws.SingleCycle.nop.2.1
  · exact cycleWellFormed_strobes i hstrobes

/-! ### Decoding an encoding -/

theorem or_quiet (i : Inputs) : i.or Inputs.quiet = i := by
  simp [Inputs.or, Inputs.quiet]

/-- TAKE before strobes that have none. -/
theorem strobes_encode_take_or (j : Inputs) (htake : j.takeReq = false) :
    strobes ((encode .take).or j) = .take :: strobes j := by
  simp [strobes, edgeOp, Inputs.or, encode, Inputs.ofCtl, Instr.ctlMatch, Instr.operand, htake]

/-- TIMEOUT before strobes that have none, nor a TAKE. -/
theorem strobes_encode_timeout_or (j : Inputs) (htake : j.takeReq = false) (hfire : j.timerFire = false) :
    strobes ((encode .timeout).or j) = .timeout :: strobes j := by
  simp [strobes, edgeOp, Inputs.or, encode, Inputs.ofCtl, Instr.ctlMatch, Instr.operand, htake, hfire]

/-- An EDGE alone, with its timestamp on the port. -/
theorem strobes_encode_edge (a : Instr) (h : a.isEdge = true) :
    strobes (encode a) = [a] ∧ (encode a).rst = false := by
  cases a with
  | reset | take | timeout | nop => cases h
  | edgeHigh ts | edgeLow ts => simp [strobes, edgeOp, encode, Inputs.ofCtl, Instr.ctlMatch, Instr.operand]

/-- Strobes in their order are the strobes of the cycle that encodes them, and that cycle has no RESET. -/
theorem strobes_encodeCycle (ops : List Instr) (hreset : .reset ∉ ops) (hnop : .nop ∉ ops) (horder : InCycleOrder ops) :
    strobes (encodeCycle ops) = ops ∧ (encodeCycle ops).rst = false := by
  induction ops with
  | nil => exact ⟨rfl, rfl⟩
  | cons a rest ih =>
    obtain ⟨hlater, horder⟩ := List.pairwise_cons.mp horder
    obtain ⟨hstrobes, hrst⟩ := ih (hreset <| .tail _ ·) (hnop <| .tail _ ·) horder
    have htake (h : 1 ≤ a.phase) : (encodeCycle rest).takeReq = false := by
      rw [← Bool.not_eq_true, ← take_mem_strobes_iff, hstrobes]
      exact fun hmem => absurd (hlater _ hmem) h.not_gt
    have hfire (h : 2 ≤ a.phase) : (encodeCycle rest).timerFire = false := by
      rw [← Bool.not_eq_true, ← timeout_mem_strobes_iff, hstrobes]
      exact fun hmem => absurd (hlater _ hmem) h.not_gt
    have hlast (h : 3 ≤ a.phase) : rest = [] :=
      List.eq_nil_iff_forall_not_mem.mpr fun b hmem => absurd (hlater b hmem) ((phase_le_three b).trans h).not_gt
    cases a with
    | reset => exact absurd (.head _) hreset
    | nop => exact absurd (.head _) hnop
    | take =>
      rw [encodeCycle, strobes_encode_take_or _ (htake le_rfl), hstrobes]
      exact ⟨rfl, hrst⟩
    | timeout =>
      rw [encodeCycle, strobes_encode_timeout_or _ (htake (by decide)) (hfire le_rfl), hstrobes]
      exact ⟨rfl, hrst⟩
    | edgeHigh ts | edgeLow ts =>
      rw [hlast le_rfl, encodeCycle, encodeCycle, or_quiet]
      exact strobes_encode_edge _ rfl

/-- The encoding of a well-formed cycle carries exactly its operations (R74 to R76, R80). -/
theorem opsOfInputs_encodeCycle (ops : List Instr) (hwf : cycleWellFormed ops = true) :
    opsOfInputs (encodeCycle ops) = ops := by
  obtain ⟨hempty, hreset, hnop, -, horder⟩ := (cycleWellFormed_iff ops).mp hwf
  by_cases hmem : .reset ∈ ops
  · rw [hreset hmem]; decide
  by_cases hmem' : .nop ∈ ops
  · rw [hnop hmem']; decide
  obtain ⟨hstrobes, hrst⟩ := strobes_encodeCycle ops hmem hmem' horder
  rw [opsOfInputs_of_strobes hrst (hstrobes.symm ▸ hempty), hstrobes]

/-! ### The nine bytes -/

/-- Eight bytes hold a whole timestamp (log entry 4). -/
theorem microsOfBytes_bytesOfMicros (ts : Micros) :
    microsOfBytes (ts.extractLsb' 0 8) (ts.extractLsb' 8 8) (ts.extractLsb' 16 8) (ts.extractLsb' 24 8)
      (ts.extractLsb' 32 8) (ts.extractLsb' 40 8) (ts.extractLsb' 48 8) (ts.extractLsb' 56 8) = ts := by
  unfold microsOfBytes
  iterate 7 rw [BitVec.extractLsb'_append_extractLsb'_eq_extractLsb' (by decide)]
  exact BitVec.extractLsb'_eq_self

/-- The first byte holds a control vector under three zeros (R74, log entry 4). -/
theorem controlByte_fields (c : Ctl) :
    ((0 : BitVec 3) ++ c).extractLsb' 5 3 = 0 ∧ ((0 : BitVec 3) ++ c).extractLsb' 0 5 = c := by
  revert c; decide

/-- The nine bytes of a cycle's ports stand for these ports. -/
theorem inputsOfBytes_bytesOfInputs (i : Inputs) (rest : List Byte) :
    inputsOfBytes (bytesOfInputs i ++ rest) = .ok (i, rest) := by
  obtain ⟨hhigh, hlow⟩ := controlByte_fields i.ctl
  simp only [bytesOfInputs, bytesOfMicros, List.cons_append, List.nil_append, inputsOfBytes, hhigh, hlow,
    microsOfBytes_bytesOfMicros, ofCtl_ctl, ne_eq, not_true_eq_false, if_false]

/-- Settles O4: the bytes give the ports back, and the ports of a well-formed cycle carry its operations. -/
theorem encodedCycleDecodesBack : Obligations.EncodedCycleDecodesBack := by
  unfold Obligations.EncodedCycleDecodesBack
  intro ops rest hwf
  rw [encodeBytes, decodeBytes, inputsOfBytes_bytesOfInputs]
  simp only [opsOfInputs_encodeCycle ops hwf]

end Sys2Proof.Machine

/-! A control vector by its bits (30_encoding R75), the input bits a cycle ignores (R78), and how many cycles the protocol's
sequences take (R82). -/

namespace Sys2Proof.Machine

open Sys2Proof

/-! ### Decoding a control vector -/

theorem decodeCycle_eq_opsOfInputs (c : Ctl) (ts : Micros) : decodeCycle c ts = opsOfInputs (.ofCtl c ts) := by
  rw [opsOfInputs, ctl_ofCtl, edgeTs_ofCtl]

/-- A strobe's operation is carried where RESET is not (30_encoding R75). -/
theorem mem_opsOfInputs_iff_strobe (i : Inputs) (a : Instr) (hreset : a ≠ .reset) (hnop : a ≠ .nop) :
    a ∈ opsOfInputs i ↔ i.rst = false ∧ a ∈ strobes i := by
  rw [opsOfInputs_eq_strobes]
  split_ifs with hrst hstrobes
  · simp [hrst, hreset]
  · simp [hstrobes, hnop]
  · simp [hrst]

theorem reset_mem_opsOfInputs_iff (i : Inputs) : .reset ∈ opsOfInputs i ↔ i.rst = true := by
  rw [opsOfInputs_eq_strobes]
  split_ifs with hrst hstrobes
  · simp [hrst]
  · simp [hrst]
  · exact iff_of_false (reset_notMem_strobes i) hrst

theorem nop_mem_opsOfInputs_iff (i : Inputs) : .nop ∈ opsOfInputs i ↔ i.rst = false ∧ strobes i = [] := by
  rw [opsOfInputs_eq_strobes]
  split_ifs with hrst hstrobes
  · simp [hrst]
  · simp [hrst, hstrobes]
  · exact iff_of_false (nop_notMem_strobes i) (hstrobes ·.2)

theorem edgeHigh_mem_strobes_iff (i : Inputs) (ts : Micros) :
    .edgeHigh ts ∈ strobes i ↔ (i.edgeValid = true ∧ i.edgeLevel = true) ∧ ts = i.edgeTs := by
  cases hlevel : i.edgeLevel <;> simp [strobes, edgeOp, hlevel]

theorem edgeLow_mem_strobes_iff (i : Inputs) (ts : Micros) :
    .edgeLow ts ∈ strobes i ↔ (i.edgeValid = true ∧ i.edgeLevel = false) ∧ ts = i.edgeTs := by
  cases hlevel : i.edgeLevel <;> simp [strobes, edgeOp, hlevel]

/-- The table's match and mask of each operation, read as conditions on the control vector's bits (R75). -/
theorem ctl_matches_iff (c : Ctl) :
    (c &&& 0b10000 = 0b10000 ↔ c.getLsbD 4 = true) ∧
    (c &&& 0b11000 = 0b01000 ↔ c.getLsbD 4 = false ∧ c.getLsbD 3 = true) ∧
    (c &&& 0b10100 = 0b00100 ↔ c.getLsbD 4 = false ∧ c.getLsbD 2 = true) ∧
    (c &&& 0b10011 = 0b00011 ↔ c.getLsbD 4 = false ∧ c.getLsbD 1 = true ∧ c.getLsbD 0 = true) ∧
    (c &&& 0b10011 = 0b00010 ↔ c.getLsbD 4 = false ∧ c.getLsbD 1 = true ∧ c.getLsbD 0 = false) ∧
    (c &&& 0b11110 = 0b00000 ↔
      c.getLsbD 4 = false ∧ c.getLsbD 3 = false ∧ c.getLsbD 2 = false ∧ c.getLsbD 1 = false) := by
  revert c; decide

/-- Settles O2: each operation's table row, as conditions on the bits, says when its strobe is among the cycle's. -/
theorem operationPresentByMatchAndMask : Obligations.OperationPresentByMatchAndMask := by
  unfold Obligations.OperationPresentByMatchAndMask
  intro c ts a
  obtain ⟨hreset, htake, htimeout, hhigh, hlow, hnop⟩ := ctl_matches_iff c
  rw [decodeCycle_eq_opsOfInputs]
  cases a with
  | reset => exact (reset_mem_opsOfInputs_iff _).trans (hreset.symm.trans (and_iff_left nofun).symm)
  | take =>
    rw [mem_opsOfInputs_iff_strobe _ .take nofun nofun, take_mem_strobes_iff]
    exact htake.symm.trans (and_iff_left nofun).symm
  | timeout =>
    rw [mem_opsOfInputs_iff_strobe _ .timeout nofun nofun, timeout_mem_strobes_iff]
    exact htimeout.symm.trans (and_iff_left nofun).symm
  | edgeHigh t =>
    rw [mem_opsOfInputs_iff_strobe _ (.edgeHigh t) nofun nofun, edgeHigh_mem_strobes_iff, ← and_assoc]
    exact and_congr hhigh.symm ⟨fun h _ => h, fun h => h rfl⟩
  | edgeLow t =>
    rw [mem_opsOfInputs_iff_strobe _ (.edgeLow t) nofun nofun, edgeLow_mem_strobes_iff, ← and_assoc]
    exact and_congr hlow.symm ⟨fun h _ => h, fun h => h rfl⟩
  | nop =>
    rw [nop_mem_opsOfInputs_iff, strobes_eq_nil_iff]
    exact hnop.symm.trans (and_iff_left nofun).symm

/-- Settles O3: what the ports of a cycle carry is well formed, and a control vector is such ports. -/
theorem everyCycleDecodesWellFormed : Obligations.EveryCycleDecodesWellFormed := by
  unfold Obligations.EveryCycleDecodesWellFormed
  intro c ts
  rw [decodeCycle_eq_opsOfInputs]
  exact cycleWellFormed_opsOfInputs _

/-- Settles O1: ten closed control vectors, decoded. -/
theorem sampleControlVectorsDecode : Obligations.SampleControlVectorsDecode := by
  unfold Obligations.SampleControlVectorsDecode
  decide

/-! ### The ignored input bits -/

/-- A cycle sees its ports through the operations they carry (R74). -/
theorem runCycle_congr {i j : Inputs} (h : opsOfInputs i = opsOfInputs j) (s : State) : runCycle i s = runCycle j s := by
  rw [runCycle, runCycle, h]

theorem opsOfInputs_of_no_edge (i : Inputs) (lvl : Bool) (ts : Micros) (hvalid : i.edgeValid = false) :
    opsOfInputs { i with edgeLevel := lvl, edgeTs := ts } = opsOfInputs i := by
  simp only [opsOfInputs_eq_strobes, strobes, hvalid, Bool.false_eq_true, if_false]

/-- With no deadline outstanding a fire makes no difference to what the EDGE meets (43_deadline_guard R183). -/
theorem beforeEdge_of_disarmed (i : Inputs) (s : State) (harmed : s.deadlineArmed = false) :
    beforeEdge i s = takePart i (beginCycle s) := by
  have hstale := timeoutOp_stale (takePart i (beginCycle s)) ((takePart_keeps i (beginCycle s)).2.1.trans harmed)
  rw [beforeEdge, timeoutPart, hstale, ite_self]

theorem cycleResult_fire_of_disarmed (i : Inputs) (s : State) (fire : Bool) (hrst : i.rst = false)
    (harmed : s.deadlineArmed = false) :
    cycleResult { i with timerFire := fire } s = recoverUnreachable (edgePart i (takePart i (beginCycle s))) := by
  rw [cycleResult_edge { i with timerFire := fire } s hrst, beforeEdge_of_disarmed _ s harmed]
  rfl

/-- Settles O5: a cycle always answers; it sees no level or timestamp without EDGE, nothing but RESET beside RESET, and no fire
with no deadline outstanding. -/
theorem ignoredInputBitsMakeNoDifference : Obligations.IgnoredInputBitsMakeNoDifference := by
  unfold Obligations.IgnoredInputBitsMakeNoDifference
  refine ⟨fun i s => ⟨_, runCycle_eq i s⟩, fun i s lvl ts hvalid => ?_, fun i j s hi hj => ?_,
    fun i s hrst harmed => ⟨?_, ?_⟩⟩
  · exact runCycle_congr (opsOfInputs_of_no_edge i lvl ts hvalid) s
  · exact runCycle_congr ((opsOfInputs_of_rst hi).trans (opsOfInputs_of_rst hj).symm) s
  · rw [mem_opsOfInputs_iff_strobe _ .timeout nofun nofun, timeout_mem_strobes_iff]
    exact ⟨hrst, rfl⟩
  · rw [runCycle_eq, runCycle_eq, cycleResult_fire_of_disarmed i s true hrst harmed,
      cycleResult_fire_of_disarmed i s false hrst harmed]

/-! ### Steps -/

/-- Settles O29: where inputs are placed a step takes the first, else a free value. -/
theorem stepPerformsTheNextCycle : Obligations.StepPerformsTheNextCycle := by
  unfold Obligations.StepPerformsTheNextCycle
  refine ⟨fun s i rest hpending => ?_, fun s hpending => ?_⟩
  · rw [step, clockCycle, nextInputs, afterSampling, hpending]
  · rw [step, clockCycle, nextInputs, afterSampling, hpending]

/-! ### The lengths of the protocol's sequences -/

/-- Items that are operations, each a cycle of its own (R80). -/
def AllSingle (items : List TraceItem) : Prop :=
  ∀ x ∈ items, ∃ o, x = .single o

/-- Operations stand for one cycle each (R80). -/
theorem cyclesOf_allSingle (items : List TraceItem) (h : AllSingle items) (prev : Micros) :
    ∃ is, cyclesOf prev items = .ok is ∧ is.length = items.length := by
  induction items generalizing prev with
  | nil => exact ⟨[], rfl, rfl⟩
  | cons x rest ih =>
    obtain ⟨o, rfl⟩ := h x (.head _)
    obtain ⟨is, hcycles, hlength⟩ := ih (fun y hy => h y (.tail _ hy)) (o.inputs prev).2
    refine ⟨(o.inputs prev).1 :: is, ?_, ?_⟩
    · simp only [cyclesOf, TraceItem.cycle, hcycles]
    · simp only [List.length_cons, hlength]

/-- A bit is two edges (R82). -/
theorem expandBits_bitItems (p : Params) (w : FrameWord) (k n : Nat) :
    AllSingle (expandBits p (bitItems w k n)) ∧ (expandBits p (bitItems w k n)).length = 2 * n := by
  induction n generalizing k with
  | zero => exact ⟨nofun, rfl⟩
  | succ n ih =>
    obtain ⟨hsingle, hlength⟩ := ih (k + 1)
    refine ⟨?_, ?_⟩
    · simpa [AllSingle, bitItems, expandBits, expandBit, edgeAfter] using hsingle
    · simp only [bitItems, expandBits, expandBit, List.length_append, hlength, List.length_cons, List.length_nil]
      omega

theorem expandRawFrame_cycles (p : Params) (t : Micros) (w : FrameWord) :
    AllSingle (expandRawFrame p t w) ∧ (expandRawFrame p t w).length = 68 := by
  obtain ⟨hsingle, hlength⟩ := expandBits_bitItems p w 0 32
  refine ⟨?_, ?_⟩
  · simpa [AllSingle, expandRawFrame, expandStart, edgeAfter, or_imp, forall_and] using hsingle
  · simp [expandRawFrame, expandStart, hlength]

theorem expandRepeat_cycles (p : Params) (t : Micros) :
    AllSingle (expandRepeat p t) ∧ (expandRepeat p t).length = 4 :=
  ⟨by simp [AllSingle, expandRepeat, expandStart, edgeAfter], rfl⟩

/-- Settles O54: a frame is its start burst of two edges, its space, 64 edges of bits and one more; a repeat code has no bits. -/
theorem protocolSequenceLengths : Obligations.ProtocolSequenceLengths := by
  unfold Obligations.ProtocolSequenceLengths
  intro p t w
  obtain ⟨hframe, hframeLength⟩ := expandRawFrame_cycles p t w
  obtain ⟨hrepeat, hrepeatLength⟩ := expandRepeat_cycles p t
  rw [← hframeLength, ← hrepeatLength]
  refine ⟨?_, ?_⟩
  · simpa [traceCycles, TraceItem.expand] using cyclesOf_allSingle _ hframe 0
  · simpa [traceCycles, TraceItem.expand] using cyclesOf_allSingle _ hrepeat 0

end Sys2Proof.Machine

/-! What each operation leaves alone (10_state R23 to R31, 30_encoding R72): TIMEOUT and EDGE_LOW write control fields only,
and no operation touches the parameters, the inputs to come or the level outputs. -/

namespace Sys2Proof.Machine

open Sys2Proof

/-! ### Operations that write control only -/

/-- `s` with the control fields of `t`: the state, the indicator, the deadline bit, the baseline, `timer_cancel` and the
diagnostic port. -/
def withControlOf (s t : State) : State :=
  { s with
    state := t.state, indicator := t.indicator, deadlineArmed := t.deadlineArmed
    lastEdgeTimestamp := t.lastEdgeTimestamp
    out := { s.out with
      timerCancel := t.out.timerCancel, diagValid := t.out.diagValid, diagCode := t.out.diagCode
      diagDelta := t.out.diagDelta } }

/-- From `s` to `t` at most the control fields are written. -/
def WritesControlOnly (s t : State) : Prop :=
  t = withControlOf s t

theorem WritesControlOnly.refl (s : State) : WritesControlOnly s s := rfl

theorem WritesControlOnly.trans {s t u : State} (hst : WritesControlOnly s t) (htu : WritesControlOnly t u) :
    WritesControlOnly s u := by
  have hcontrol : withControlOf t u = withControlOf (withControlOf s t) u := congrArg (withControlOf · u) hst
  exact Eq.trans htu hcontrol

theorem writesControlOnly_recordEdge (ts : Micros) (s : State) : WritesControlOnly s (recordEdge ts s) := rfl

theorem writesControlOnly_setState (x : DecoderState) (s : State) : WritesControlOnly s (setState x s) := rfl

theorem writesControlOnly_consumeDeadline (s : State) : WritesControlOnly s (consumeDeadline s) := rfl

theorem writesControlOnly_enterIdle (s : State) : WritesControlOnly s (enterIdle s) := by
  rw [enterIdle_eq]; rfl

theorem writesControlOnly_takeError (d : Diag) (dt : Micros) (s : State) : WritesControlOnly s (takeError d dt s) := by
  rw [takeError_eq]; rfl

/-- TIMEOUT writes control only (43_deadline_guard R181). -/
theorem writesControlOnly_timeoutOp (s : State) : WritesControlOnly s (timeoutOp s) := by
  unfold timeoutOp
  split_ifs
  · exact (writesControlOnly_consumeDeadline s).trans (writesControlOnly_takeError _ _ _)
  · exact writesControlOnly_consumeDeadline s
  · exact .refl s

/-- EDGE_LOW writes control only: no cell of its column touches the accumulator or the slot (40_edge_fsm R103 to R111). -/
theorem writesControlOnly_edgeLow (ts : Micros) (s : State) : WritesControlOnly s (edgeLow ts s) := by
  have hrecord {u : State} (h : WritesControlOnly s u) : WritesControlOnly s (recordEdge ts u) :=
    h.trans (writesControlOnly_recordEdge ts u)
  cases hstate : s.state with
  | idle => rw [edgeLow_idle ts s hstate]; exact hrecord (.refl s)
  | waitForStart =>
    rw [edgeLow_waitForStart ts s hstate, edgeWaitForStartLow]
    split_ifs
    · exact hrecord (writesControlOnly_setState _ s)
    · exact hrecord (writesControlOnly_takeError _ _ s)
  | addressOrRepeat =>
    rw [edgeLow_addressOrRepeat ts s hstate]
    exact hrecord (writesControlOnly_takeError _ _ s)
  | receiveFrame => rw [edgeLow_receiveFrame ts s hstate]; exact hrecord (.refl s)
  | waitEnd => rw [edgeLow_waitEnd ts s hstate]; exact hrecord (writesControlOnly_enterIdle s)
  | unreachable5 | unreachable6 | unreachable7 =>
    rw [edgeLow_unreachable ts s (by rw [hstate]; rfl)]
    exact .refl s

/-- TIMEOUT is no EDGE: it leaves the baseline alone (10_state R23). -/
theorem timeoutOp_lastEdgeTimestamp (s : State) : (timeoutOp s).lastEdgeTimestamp = s.lastEdgeTimestamp := by
  unfold timeoutOp
  split_ifs <;> simp [takeError_eq]

/-! ### The surroundings of the registers -/

/-- From `s` to `t` the parameters, the inputs to come and the level outputs are kept; the delay port is kept or driven with the
constant delay (30_encoding R72, 10_state R42, log entry 2). -/
structure KeepsSurroundings (s t : State) : Prop where
  params : t.params = s.params
  pending : t.pending = s.pending
  freeDraws : t.freeDraws = s.freeDraws
  indicator : t.out.indicator = s.out.indicator
  framePending : t.out.framePending = s.out.framePending
  delay : t.out.timerDelayMs = s.out.timerDelayMs ∨ t.out.timerDelayMs = s.params.deadlineMs

theorem KeepsSurroundings.refl (s : State) : KeepsSurroundings s s :=
  ⟨rfl, rfl, rfl, rfl, rfl, .inl rfl⟩

theorem KeepsSurroundings.trans {s t u : State} (hst : KeepsSurroundings s t) (htu : KeepsSurroundings t u) :
    KeepsSurroundings s u where
  params := htu.params.trans hst.params
  pending := htu.pending.trans hst.pending
  freeDraws := htu.freeDraws.trans hst.freeDraws
  indicator := htu.indicator.trans hst.indicator
  framePending := htu.framePending.trans hst.framePending
  delay := by
    obtain hkept | hdriven := htu.delay
    · rw [hkept]; exact hst.delay
    · exact .inr (by rw [hdriven, hst.params])

theorem WritesControlOnly.keepsSurroundings {s t : State} (h : WritesControlOnly s t) : KeepsSurroundings s t := by
  rw [h]
  exact ⟨rfl, rfl, rfl, rfl, rfl, .inl rfl⟩

theorem keepsSurroundings_completeFrame (dt : Micros) (s : State) : KeepsSurroundings s (completeFrame dt s) := by
  cases hvalid : frameValid s.shiftRegister with
  | true => rw [completeFrame_valid dt s hvalid]; exact ⟨rfl, rfl, rfl, rfl, rfl, .inl rfl⟩
  | false => rw [completeFrame_invalid dt s hvalid]; exact ⟨rfl, rfl, rfl, rfl, rfl, .inl rfl⟩

theorem CellOutcome.keepsSurroundings {dt : Micros} {s u : State} (hcell : CellOutcome dt s u) :
    KeepsSurroundings s u := by
  cases hcell with
  | ignored => exact .refl s
  | start => exact ⟨rfl, rfl, rfl, rfl, rfl, .inr rfl⟩
  | wrongLevel | wrongMark | wrongBit => exact (writesControlOnly_takeError _ _ s).keepsSurroundings
  | mark | frameSpace | repeatSpace | bit => exact ⟨rfl, rfl, rfl, rfl, rfl, .inl rfl⟩
  | lastBit b =>
    have hshift : KeepsSurroundings s (shiftIn b s) := ⟨rfl, rfl, rfl, rfl, rfl, .inl rfl⟩
    exact hshift.trans (keepsSurroundings_completeFrame dt _)
  | finish => exact (writesControlOnly_enterIdle s).keepsSurroundings

theorem keepsSurroundings_edgeHigh (ts : Micros) (s : State) : KeepsSurroundings s (edgeHigh ts s) := by
  cases hlegal : s.state.isLegal with
  | false => rw [edgeHigh_unreachable ts s hlegal]; exact .refl s
  | true =>
    obtain ⟨u, hcell, heq⟩ := edgeHigh_cell ts s hlegal
    rw [heq]
    exact hcell.keepsSurroundings.trans (writesControlOnly_recordEdge ts u).keepsSurroundings

/-- Every operation keeps the surroundings. -/
theorem keepsSurroundings_opResult (a : Instr) (s : State) : KeepsSurroundings s (opResult a s) := by
  cases a with
  | reset | take => exact ⟨rfl, rfl, rfl, rfl, rfl, .inl rfl⟩
  | timeout => exact (writesControlOnly_timeoutOp s).keepsSurroundings
  | edgeHigh ts => exact keepsSurroundings_edgeHigh ts s
  | edgeLow ts => exact (writesControlOnly_edgeLow ts s).keepsSurroundings
  | nop => exact .refl s

/-- Only TAKE drives the `take_*` ports (44_consumer_read R200). -/
theorem takePorts_edgeHigh (ts : Micros) (s : State) : takePorts (edgeHigh ts s).out = takePorts s.out :=
  (slotWritten_edgeHigh (i := ⟨false, false, false, true, true, ts⟩) rfl rfl rfl s (by simp [stateAtEdge])).ports

theorem takePorts_eq_iff (o p : Outputs) :
    takePorts o = takePorts p ↔
      o.takeValid = p.takeValid ∧ o.takeAddress = p.takeAddress ∧ o.takeCommand = p.takeCommand ∧
        o.takeRepeated = p.takeRepeated := by
  simp [takePorts]

/-- Settles O27: every operation keeps the surroundings; TIMEOUT and EDGE_LOW write control only, the others a few fields each. -/
theorem operationsWriteOnlyTheirRegisters : Obligations.OperationsWriteOnlyTheirRegisters := by
  unfold Obligations.OperationsWriteOnlyTheirRegisters
  intro a s
  obtain ⟨hparams, hpending, hdraws, hindicator, hframePending, -⟩ := keepsSurroundings_opResult a s
  refine ⟨opResult a s, exec_eq a s, hparams, hpending, hdraws, hindicator, hframePending, ?_⟩
  cases a with
  | reset => simp [opResult, resetRegisters, Instr.isEdge]
  | take => simp [opResult, takeOp, Instr.isEdge]
  | nop => simp [opResult]
  | timeout =>
    have hlast := timeoutOp_lastEdgeTimestamp s
    have hcancel := (timeoutOp_timerPulses s).2
    obtain ⟨t, ht⟩ : ∃ t, timeoutOp s = withControlOf s t := ⟨_, writesControlOnly_timeoutOp s⟩
    simp only [ht, withControlOf] at hlast hcancel
    simp [opResult, ht, hlast, hcancel, withControlOf]
  | edgeHigh ts =>
    have hports := (takePorts_eq_iff _ _).mp (takePorts_edgeHigh ts s)
    simp [opResult, hports, Instr.isEdge]
  | edgeLow ts =>
    obtain ⟨t, ht⟩ : ∃ t, edgeLow ts s = withControlOf s t := ⟨_, writesControlOnly_edgeLow ts s⟩
    simp [opResult, ht, Instr.isEdge, withControlOf]

/-! ### The level outputs of a cycle -/

theorem recoverUnreachable_out (s : State) : (recoverUnreachable s).out = s.out := by
  unfold recoverUnreachable
  split_ifs
  · rfl
  · rfl

/-- The recovery from an unreachable code keeps the surroundings (10_state R39). -/
theorem keepsSurroundings_recoverUnreachable (s : State) : KeepsSurroundings s (recoverUnreachable s) := by
  unfold recoverUnreachable
  split_ifs
  · exact .refl s
  · exact ⟨rfl, rfl, rfl, rfl, rfl, .inl rfl⟩

/-- A cycle keeps the surroundings as they are once the default outputs are written (45_control R222). -/
theorem keepsSurroundings_cycleResult (i : Inputs) (s : State) : KeepsSurroundings (beginCycle s) (cycleResult i s) := by
  have hops : KeepsSurroundings (beginCycle s) ((opsOfInputs i).foldl (fun t a => opResult a t) (beginCycle s)) :=
    List.foldlRecOn _ _ (.refl _) fun t ht a _ => ht.trans (keepsSurroundings_opResult a t)
  exact hops.trans (keepsSurroundings_recoverUnreachable _)

/-- A cycle drives a timer request or a diagnostic through EDGE or TIMEOUT only, and not under RESET (R220, R221, R225). -/
theorem cycleResult_no_pulse (i : Inputs) (s : State) (h : i.rst = true ∨ (i.edgeValid = false ∧ i.timerFire = false)) :
    (cycleResult i s).out.timerArm = false ∧ (cycleResult i s).out.timerCancel = false ∧
      (cycleResult i s).out.diagValid = false := by
  cases hrst : i.rst with
  | true => rw [cycleResult_reset i s hrst]; exact ⟨rfl, rfl, rfl⟩
  | false =>
    obtain ⟨hvalid, hfire⟩ : i.edgeValid = false ∧ i.timerFire = false := by simpa [hrst] using h
    have hquiet : cycleResult i s = recoverUnreachable (takePart i (beginCycle s)) := by
      simp [cycleResult_parts i s hrst, edgePart, timeoutPart, hvalid, hfire]
    rw [hquiet, recoverUnreachable_out, takePart]
    split_ifs
    · exact ⟨rfl, rfl, rfl⟩
    · exact ⟨rfl, rfl, rfl⟩

/-- Settles O37: the level outputs and the delay are the defaults, which show the registers at the start. -/
theorem levelOutputsLagOneCycle : Obligations.LevelOutputsLagOneCycle := by
  unfold Obligations.LevelOutputsLagOneCycle
  intro i s
  have hkeeps := keepsSurroundings_cycleResult i s
  exact ⟨_, runCycle_eq i s, hkeeps.indicator, hkeeps.framePending, hkeeps.delay.elim id id, cycleResult_no_pulse i s⟩

end Sys2Proof.Machine

/-! The cells of the state table (40_edge_fsm R102 to R111) as what exec answers, and the baseline timestamp of a cycle
(R101). -/

namespace Sys2Proof.Machine

open Sys2Proof

/-! ### One edge -/

theorem exec_edgeHigh (ts : Micros) (s : State) : exec (.edgeHigh ts) s = .next (edgeHigh ts s) := rfl

theorem exec_edgeLow (ts : Micros) (s : State) : exec (.edgeLow ts) s = .next (edgeLow ts s) := rfl

/-- Settles O18: the cell is `enterWaitForStart`, with no timing check. -/
theorem idleHighEntersWaitForStart : Obligations.IdleHighEntersWaitForStart := by
  unfold Obligations.IdleHighEntersWaitForStart
  intro s ts hstate
  rw [exec_edgeHigh, edgeHigh_idle ts s hstate, edgeIdleHigh, enterWaitForStart_eq, recordEdge]

/-- Settles O19: each of the three cells returns its state, so the timestamp is all that is written. -/
theorem ignoredEdgesMoveOnlyTheBaseline : Obligations.IgnoredEdgesMoveOnlyTheBaseline := by
  unfold Obligations.IgnoredEdgesMoveOnlyTheBaseline
  refine fun s ts => ⟨fun hstate => ?_, fun hstate => ?_, fun hstate => ?_⟩
  · rw [exec_edgeLow, edgeLow_idle ts s hstate, edgeIdleLow, recordEdge]
  · rw [exec_edgeLow, edgeLow_receiveFrame ts s hstate, edgeReceiveFrameLow, recordEdge]
  · rw [exec_edgeHigh, edgeHigh_waitEnd ts s hstate, edgeWaitEndHigh, recordEdge]

/-- Settles O20: both cells take the error InvalidStartLevel. -/
theorem wrongLevelBeforeAFrameEntersIdle : Obligations.WrongLevelBeforeAFrameEntersIdle := by
  unfold Obligations.WrongLevelBeforeAFrameEntersIdle
  refine fun s ts => ⟨fun hstate => ?_, fun hstate => ?_⟩
  · rw [exec_edgeHigh, edgeHigh_waitForStart ts s hstate, edgeWaitForStartHigh, takeError_eq]; rfl
  · rw [exec_edgeLow, edgeLow_addressOrRepeat ts s hstate, edgeAddressOrRepeatLow, takeError_eq]; rfl

/-- Settles O21: a start mark in its window only changes the state; out of it the cell takes InvalidStartTiming. -/
theorem startMarkIsCheckedInWaitForStart : Obligations.StartMarkIsCheckedInWaitForStart := by
  unfold Obligations.StartMarkIsCheckedInWaitForStart
  intro s ts hstate
  rw [exec_edgeLow, edgeLow_waitForStart ts s hstate]
  refine ⟨fun hmark => ?_, fun hmark => ?_⟩
  · rw [edgeWaitForStartLow_inWindow (delta s ts) s hmark]; rfl
  · rw [edgeWaitForStartLow_outOfWindow (delta s ts) s hmark, takeError_eq]; rfl

/-- Settles O22: one branch of the cell per class of the space. -/
theorem spaceAfterStartMarkSelectsFrameOrRepeat : Obligations.SpaceAfterStartMarkSelectsFrameOrRepeat := by
  unfold Obligations.SpaceAfterStartMarkSelectsFrameOrRepeat
  intro s ts hstate
  rw [exec_edgeHigh, edgeHigh_addressOrRepeat ts s hstate]
  refine ⟨fun hclass => ?_, fun hclass => ?_, fun hclass => ?_⟩
  · rw [edgeAddressOrRepeatHigh_frame (delta s ts) s hclass]; rfl
  · rw [edgeAddressOrRepeatHigh_repeat (delta s ts) s hclass]; rfl
  · rw [edgeAddressOrRepeatHigh_noMatch (delta s ts) s hclass]; rfl

/-- Settles O23: no bit window takes InvalidBitTiming; a bit short of the 32nd is shifted in and completes nothing. -/
theorem bitSpacesAreShiftedInOrRejected : Obligations.BitSpacesAreShiftedInOrRejected := by
  unfold Obligations.BitSpacesAreShiftedInOrRejected
  intro s ts hstate
  rw [exec_edgeHigh, edgeHigh_receiveFrame ts s hstate]
  refine ⟨fun hclass => ?_, fun b hclass hcount => ?_⟩
  · rw [edgeReceiveFrameHigh_noBit (delta s ts) s hclass, takeError_eq]; rfl
  · rw [edgeReceiveFrameHigh_bit (delta s ts) s b hclass, acceptBit_more b _ s hcount]; rfl

/-- Settles O25: the cell is `enterIdle`, with no timing check. -/
theorem waitEndLowEntersIdle : Obligations.WaitEndLowEntersIdle := by
  unfold Obligations.WaitEndLowEntersIdle
  intro s ts hstate
  rw [exec_edgeLow, edgeLow_waitEnd ts s hstate, edgeWaitEndLow, enterIdle_eq, recordEdge]

/-! ### The baseline of a cycle -/

/-- Before its EDGE a cycle has left the baseline alone (10_state R23). -/
theorem beforeEdge_lastEdgeTimestamp (i : Inputs) (s : State) :
    (beforeEdge i s).lastEdgeTimestamp = s.lastEdgeTimestamp := by
  have htake (u : State) : (takePart i u).lastEdgeTimestamp = u.lastEdgeTimestamp := by
    unfold takePart
    split_ifs
    · rfl
    · rfl
  exact (timeoutPart_keeps i _).2.1.trans (htake _)

/-- The recovery from an unreachable code leaves the baseline alone (R39). -/
theorem recoverUnreachable_lastEdgeTimestamp (s : State) :
    (recoverUnreachable s).lastEdgeTimestamp = s.lastEdgeTimestamp := by
  unfold recoverUnreachable
  split_ifs
  · rfl
  · rfl

/-- The EDGE sub-step in a legal state records its timestamp whatever its cell does (R101). -/
theorem edgePart_lastEdgeTimestamp (i : Inputs) (s : State) (hlegal : s.state.isLegal = true)
    (hvalid : i.edgeValid = true) : (edgePart i s).lastEdgeTimestamp = i.edgeTs := by
  obtain ⟨hnone, -⟩ | ⟨u, -, heq⟩ := edgePart_cases i s hlegal
  · rw [hvalid] at hnone; cases hnone
  · rw [heq, recordEdge_lastEdgeTimestamp]

/-- Settles O26: the EDGE records its timestamp, and nothing else of a cycle without RESET writes the baseline. -/
theorem everyEdgeMovesTheBaseline : Obligations.EveryEdgeMovesTheBaseline := by
  unfold Obligations.EveryEdgeMovesTheBaseline
  intro i s hrst
  refine ⟨_, runCycle_eq i s, ?_⟩
  rw [cycleResult_edge i s hrst, recoverUnreachable_lastEdgeTimestamp]
  refine ⟨fun hvalid hlegal => edgePart_lastEdgeTimestamp i _ (beforeEdge_isLegal i s hlegal) hvalid, fun hvalid => ?_⟩
  rw [edgePart, if_neg (by simp [hvalid]), beforeEdge_lastEdgeTimestamp]

end Sys2Proof.Machine

/-! Placed cycles are played in their order, and a trace of edges is one edge after another from the state it meets
(30_encoding R80, log entry 2). -/

namespace Sys2Proof.Machine

open Sys2Proof

/-! ### Placed cycles -/

section

variable (cycles : List Inputs)

theorem enterIdle_present (s : State) : enterIdle (present cycles s) = present cycles (enterIdle s) := by
  rw [enterIdle_eq, enterIdle_eq]; rfl

theorem takeError_present (d : Diag) (dt : Micros) (s : State) :
    takeError d dt (present cycles s) = present cycles (takeError d dt s) :=
  enterIdle_present cycles (raiseDiag d dt s)

/-- Nothing before the EDGE of a cycle sees what is placed for later (log entry 2). -/
theorem hiddenUpdate_present : HiddenUpdate (present cycles) where
  params _ := rfl
  state _ := rfl
  deadlineArmed _ := rfl
  beginCycle _ := rfl
  takeOp _ := rfl
  consumeDeadline _ := rfl
  takeError := takeError_present cycles

theorem completeFrame_present (dt : Micros) (s : State) :
    completeFrame dt (present cycles s) = present cycles (completeFrame dt s) := by
  unfold completeFrame
  rw [present_shiftRegister]
  split_ifs
  · rfl
  · rfl

theorem acceptBit_present (b : Bool) (dt : Micros) (s : State) :
    acceptBit b dt (present cycles s) = present cycles (acceptBit b dt s) := by
  by_cases hcount : s.bitCount + 1 = 32
  · rw [acceptBit_last b dt s hcount, acceptBit_last b dt (present cycles s) hcount]
    exact completeFrame_present cycles dt (shiftIn b s)
  · rw [acceptBit_more b dt s hcount, acceptBit_more b dt (present cycles s) hcount]
    rfl

theorem edgeWaitForStartLow_present (dt : Micros) (s : State) :
    edgeWaitForStartLow dt (present cycles s) = present cycles (edgeWaitForStartLow dt s) := by
  unfold edgeWaitForStartLow
  rw [present_params]
  split_ifs
  · rfl
  · exact takeError_present cycles _ dt s

theorem edgeAddressOrRepeatHigh_present (dt : Micros) (s : State) :
    edgeAddressOrRepeatHigh dt (present cycles s) = present cycles (edgeAddressOrRepeatHigh dt s) := by
  unfold edgeAddressOrRepeatHigh
  rw [present_params]
  cases classifyAfterStart s.params dt with
  | frameSpace | repeatSpace | noMatch => rfl

theorem edgeReceiveFrameHigh_present (dt : Micros) (s : State) :
    edgeReceiveFrameHigh dt (present cycles s) = present cycles (edgeReceiveFrameHigh dt s) := by
  unfold edgeReceiveFrameHigh
  rw [present_params]
  cases classifyBit s.params dt with
  | noBit => exact takeError_present cycles _ dt s
  | bit b => exact acceptBit_present cycles b dt s

theorem edgeHigh_present (ts : Micros) (s : State) :
    edgeHigh ts (present cycles s) = present cycles (edgeHigh ts s) := by
  unfold edgeHigh
  rw [present_state]
  cases s.state with
  | idle | waitEnd | unreachable5 | unreachable6 | unreachable7 => rfl
  | waitForStart => exact congrArg (recordEdge ts) (takeError_present cycles _ (delta s ts) s)
  | addressOrRepeat => exact congrArg (recordEdge ts) (edgeAddressOrRepeatHigh_present cycles (delta s ts) s)
  | receiveFrame => exact congrArg (recordEdge ts) (edgeReceiveFrameHigh_present cycles (delta s ts) s)

theorem edgeLow_present (ts : Micros) (s : State) :
    edgeLow ts (present cycles s) = present cycles (edgeLow ts s) := by
  unfold edgeLow
  rw [present_state]
  cases s.state with
  | idle | receiveFrame | unreachable5 | unreachable6 | unreachable7 => rfl
  | waitForStart => exact congrArg (recordEdge ts) (edgeWaitForStartLow_present cycles (delta s ts) s)
  | addressOrRepeat => exact congrArg (recordEdge ts) (takeError_present cycles _ (delta s ts) s)
  | waitEnd => exact congrArg (recordEdge ts) (enterIdle_present cycles s)

theorem edgePart_present (i : Inputs) (s : State) :
    edgePart i (present cycles s) = present cycles (edgePart i s) := by
  unfold edgePart
  split_ifs
  · exact edgeHigh_present cycles i.edgeTs s
  · exact edgeLow_present cycles i.edgeTs s
  · rfl

theorem recoverUnreachable_present (s : State) :
    recoverUnreachable (present cycles s) = present cycles (recoverUnreachable s) := by
  unfold recoverUnreachable
  rw [present_state]
  split_ifs
  · rfl
  · rfl

/-- A cycle does not see the inputs placed for later cycles (log entry 2). -/
theorem cycleResult_present (i : Inputs) (s : State) :
    cycleResult i (present cycles s) = present cycles (cycleResult i s) := by
  cases hrst : i.rst with
  | true => rw [cycleResult_reset i _ hrst, cycleResult_reset i s hrst]; rfl
  | false =>
    rw [cycleResult_edge i _ hrst, cycleResult_edge i s hrst, (hiddenUpdate_present cycles).beforeEdge,
      edgePart_present, recoverUnreachable_present]

end

/-- The state that cycles leave one after another. -/
def cyclesResult (cycles : List Inputs) (s : State) : State :=
  cycles.foldl (fun u i => cycleResult i u) s

/-- A run's first step (Host.Core.run). -/
theorem run_succ {M : Host.Core} {s t : M.State} (hstep : M.step s = .next t) (k : Nat) :
    M.run (k + 1) s = M.run k t := by
  simp only [Host.Core.run, hstep]

/-- As many steps as there are placed cycles perform exactly these (30_encoding R70, log entry 2). -/
theorem run_present (cycles : List Inputs) (s : State) :
    Host.Core.run Sys2Proof.core cycles.length (present cycles s) = .next (cyclesResult cycles s) := by
  induction cycles generalizing s with
  | nil => rfl
  | cons i rest ih =>
    have hstep : step (present (i :: rest) s) = .next (present rest (cycleResult i s)) := by
      rw [← cycleResult_present]; exact step_eq _
    exact (run_succ (M := Sys2Proof.core) hstep rest.length).trans (ih _)

/-- Cycles keep the parameters and what is placed for later. -/
theorem cyclesResult_keeps (cycles : List Inputs) (s : State) :
    (cyclesResult cycles s).params = s.params ∧ (cyclesResult cycles s).pending = s.pending :=
  List.foldlRecOn (motive := fun u => u.params = s.params ∧ u.pending = s.pending) cycles _ ⟨rfl, rfl⟩
    fun u hu i _ =>
      have hkeeps := keepsSurroundings_cycleResult i u
      ⟨hkeeps.params.trans hu.1, hkeeps.pending.trans hu.2⟩

end Sys2Proof.Machine

/-! The edges of a trace, played one after another (30_encoding R80), and the decoder's way through a full frame
(40_edge_fsm R112, 41_frame_assembly R136, R137). -/

namespace Sys2Proof.Machine

open Sys2Proof

/-! ### Traces of edges -/

/-- The input ports of a cycle with an EDGE alone (30_encoding R75). -/
def edgeInputs (high : Bool) (ts : Micros) : Inputs :=
  { Inputs.quiet with edgeValid := true, edgeLevel := high, edgeTs := ts }

/-- The inputs of a trace's EDGE, and the timestamp it leaves to the next one (R80). -/
theorem inputs_edge (prev : Micros) (high : Bool) (t : TraceTime) :
    (TraceOp.edge high t).inputs prev = (edgeInputs high (t.resolve prev), t.resolve prev) := by
  cases high with
  | true | false => simp [TraceOp.inputs, encode, Inputs.ofCtl, Instr.ctlMatch, Instr.operand, edgeInputs, Inputs.quiet]

/-- A cycle with an EDGE alone, in a legal state. -/
theorem cycleResult_edgeInputs (high : Bool) (ts : Micros) (s : State) (hlegal : s.state.isLegal = true) :
    cycleResult (edgeInputs high ts) s = edgePart (edgeInputs high ts) (beginCycle s) :=
  cycleResult_edge_of_legal _ s hlegal rfl

/-- From `s`, whose baseline is the time of the edge before, edges that each meet a legal state lead to `u`. -/
inductive Plays : List TraceItem → State → State → Prop where
  | nil (s : State) : Plays [] s s
  | edge {high : Bool} {t : TraceTime} {rest : List TraceItem} {s u : State} (hlegal : s.state.isLegal = true)
      (hrest : Plays rest (edgePart (edgeInputs high (t.resolve s.lastEdgeTimestamp)) (beginCycle s)) u) :
      Plays (.single (.edge high t) :: rest) s u

theorem Plays.append {a b : List TraceItem} {s u v : State} (ha : Plays a s u) (hb : Plays b u v) :
    Plays (a ++ b) s v := by
  induction ha with
  | nil s => exact hb
  | edge hlegal _ ih => exact .edge hlegal (ih hb)

/-- Edges that play are cycles of a trace, and these cycles have the same result (R80). -/
theorem Plays.cycles {items : List TraceItem} {s u : State} (h : Plays items s u) :
    ∃ is, cyclesOf s.lastEdgeTimestamp items = .ok is ∧ cyclesResult is s = u := by
  induction h with
  | nil s => exact ⟨[], rfl, rfl⟩
  | @edge high t rest s u hlegal _ ih =>
    obtain ⟨is, hcycles, hresult⟩ := ih
    have hlast := edgePart_lastEdgeTimestamp (edgeInputs high (t.resolve s.lastEdgeTimestamp)) (beginCycle s) hlegal rfl
    rw [hlast] at hcycles
    rw [← cycleResult_edgeInputs _ _ s hlegal] at hresult
    refine ⟨_ :: is, ?_, hresult⟩
    simp only [cyclesOf, TraceItem.cycle, inputs_edge]
    rw [show cyclesOf (t.resolve s.lastEdgeTimestamp) rest = .ok is from hcycles]

/-- A machine on whose ports the cycles of such a trace are placed runs to where the edges lead. -/
theorem Plays.runs {items : List TraceItem} {s u : State} (h : Plays items s u) :
    ∃ is, cyclesOf s.lastEdgeTimestamp items = .ok is ∧
      Host.Core.run Sys2Proof.core is.length (present is s) = .next u ∧ u.pending = s.pending := by
  obtain ⟨is, hcycles, rfl⟩ := h.cycles
  exact ⟨is, hcycles, run_present is s, (cyclesResult_keeps is s).2⟩

/-! ### The windows of the sequences' own intervals -/

theorem toNat_paramUs {n : Nat} (h : n < 2 ^ 64) : (paramUs n).toNat = n := by
  rw [paramUs, BitVec.toNat_ofNat, Nat.mod_eq_of_lt h]

/-- A space is in its own window (42_timing_windows R161). -/
theorem inRange_paramUs {n : Nat} (h : n < 2 ^ 64) (tol : Nat) : inRange (paramUs n) n tol = true := by
  rw [inRange_iff, toNat_paramUs h]
  omega

theorem isStartMark_paramUs {p : Params} (h : p.startMarkUs < 2 ^ 64) : isStartMark p (paramUs p.startMarkUs) = true :=
  inRange_paramUs h _

theorem classifyAfterStart_startSpace {p : Params} (h : p.startSpaceUs < 2 ^ 64) :
    classifyAfterStart p (paramUs p.startSpaceUs) = .frameSpace :=
  if_pos (inRange_paramUs h _)

/-- The space of a bit is classified as this bit, R13 (b) keeping bit 1 out of the window of bit 0 (R167). -/
theorem classifyBit_bitSpace {p : Params} (hp : p.wellFormed = true) (h : p.bit1SpaceUs < 2 ^ 64) (b : Bool) :
    classifyBit p (paramUs (if b then p.bit1SpaceUs else p.bit0SpaceUs)) = .bit b := by
  obtain ⟨-, hbits, -⟩ := p.wellFormed_iff.mp hp
  cases b with
  | false =>
    have hlow : p.bit0SpaceUs < 2 ^ 64 := by omega
    exact if_pos (inRange_paramUs hlow _)
  | true =>
    have hone := inRange_paramUs h p.bitTolUs
    have hzero : ¬ inRange (paramUs p.bit1SpaceUs) p.bit0SpaceUs p.bitTolUs = true :=
      fun hzero => inRange_disjoint hbits _ ⟨hzero, hone⟩
    exact (if_neg hzero).trans (if_pos hone)

/-! ### One edge after another -/

/-- A HIGH edge, `us` after the edge before. -/
theorem plays_high (s : State) (us : Micros) (hlegal : s.state.isLegal = true) :
    Plays [edgeAfter true us] s (edgeHigh (s.lastEdgeTimestamp + us) (beginCycle s)) :=
  .edge hlegal (.nil _)

/-- A LOW edge, `us` after the edge before. -/
theorem plays_low (s : State) (us : Micros) (hlegal : s.state.isLegal = true) :
    Plays [edgeAfter false us] s (edgeLow (s.lastEdgeTimestamp + us) (beginCycle s)) :=
  .edge hlegal (.nil _)

/-- The interval of a relative time is that time (42_timing_windows R160, 30_encoding R80). -/
theorem delta_relative (s : State) (us : Micros) : delta (beginCycle s) (s.lastEdgeTimestamp + us) = us := by
  rw [delta, beginCycle_lastEdgeTimestamp, add_sub_cancel_left]

/-- The parameters and the result slot of `u` are those of `s`. -/
structure SameSlot (s u : State) : Prop where
  params : u.params = s.params
  hasUnreadFrame : u.hasUnreadFrame = s.hasUnreadFrame
  frame : u.frame = s.frame

theorem SameSlot.trans {s u v : State} (hsu : SameSlot s u) (huv : SameSlot u v) : SameSlot s v :=
  ⟨huv.params.trans hsu.params, huv.hasUnreadFrame.trans hsu.hasUnreadFrame, huv.frame.trans hsu.frame⟩

/-- From Idle a HIGH edge leads to WaitForStart (40_edge_fsm R102). -/
theorem plays_idle_high (s : State) (t : Micros) (hstate : s.state = .idle) :
    ∃ u, Plays [.single (.edge true (.absolute t))] s u ∧ u.state = .waitForStart ∧ SameSlot s u := by
  have hhigh : Plays [.single (.edge true (.absolute t))] s (edgeHigh t (beginCycle s)) :=
    .edge (by rw [hstate]; rfl) (.nil _)
  rw [edgeHigh_idle t (beginCycle s) hstate] at hhigh
  exact ⟨_, hhigh, rfl, rfl, rfl, rfl⟩

/-- From WaitForStart the end of a start mark leads to AddressOrRepeat (R105). -/
theorem plays_startMark (s : State) (hstate : s.state = .waitForStart) (hfits : s.params.startMarkUs < 2 ^ 64) :
    ∃ u, Plays [edgeAfter false (paramUs s.params.startMarkUs)] s u ∧ u.state = .addressOrRepeat ∧ SameSlot s u := by
  have hmark : isStartMark (beginCycle s).params (paramUs s.params.startMarkUs) = true := isStartMark_paramUs hfits
  have hlow := plays_low s (paramUs s.params.startMarkUs) (by rw [hstate]; rfl)
  rw [edgeLow_waitForStart _ (beginCycle s) hstate, delta_relative, edgeWaitForStartLow_inWindow _ _ hmark] at hlow
  exact ⟨_, hlow, rfl, rfl, rfl, rfl⟩

/-- From Idle a start burst leads to AddressOrRepeat (30_encoding R82). -/
theorem plays_start (s : State) (t : Micros) (hstate : s.state = .idle) (hfits : s.params.startMarkUs < 2 ^ 64) :
    ∃ u, Plays (expandStart s.params t) s u ∧ u.state = .addressOrRepeat ∧ SameSlot s u := by
  obtain ⟨v, hhigh, hwait, hslot⟩ := plays_idle_high s t hstate
  rw [← hslot.params] at hfits ⊢
  obtain ⟨u, hlow, haddress, hslot'⟩ := plays_startMark v hwait hfits
  exact ⟨u, hhigh.append hlow, haddress, hslot.trans hslot'⟩

/-! ### The shift of one bit -/

/-- The new bit stands at bit 31, every other bit one place lower (41_frame_assembly R131). -/
theorem getLsbD_shiftWord (w : FrameWord) (b : Bool) {i : Nat} (hi : i < 32) :
    (shiftWord w b).getLsbD i = if i = 31 then b else w.getLsbD (i + 1) := by
  have hnew : ((BitVec.ofBool b).setWidth 32 <<< 31).getLsbD i = if i = 31 then b else false := by
    split_ifs with htop
    · simp [htop]
    · simp [show i < 31 by omega]
  rw [shiftWord, BitVec.getLsbD_or, BitVec.getLsbD_ushiftRight, hnew, add_comm 1 i]
  split_ifs with htop
  · simp [htop]
  · simp

/-- Where the top of the accumulator holds the first `n` bits of a word, shifting bit `n` in makes it hold one more
(R131, R137). -/
theorem shiftWord_shiftLeft (w : FrameWord) {n : Nat} (hn : n < 32) :
    shiftWord (w <<< (32 - n)) (w.getLsbD n) = w <<< (31 - n) := by
  refine BitVec.eq_of_getLsbD_eq fun i hi => ?_
  rw [getLsbD_shiftWord _ _ hi, BitVec.getLsbD_shiftLeft, BitVec.getLsbD_shiftLeft]
  split_ifs with htop
  · have hplace : i - (31 - n) = n := by omega
    have hreached : ¬ i < 31 - n := by omega
    simp [hi, hplace, hreached]
  · have hplace : i + 1 - (32 - n) = i - (31 - n) := by omega
    have hreached : i + 1 < 32 - n ↔ i < 31 - n := by omega
    have hi' : i + 1 < 32 := by omega
    simp [hi, hi', hplace, hreached]

/-! ### The bits of a frame -/

/-- `u` is in ReceiveFrame with the first `n` bits of `w` received at the top of the accumulator, and the slot of `s`
(41_frame_assembly R131, R132). -/
structure Receiving (s : State) (w : FrameWord) (n : Nat) (u : State) : Prop where
  state : u.state = .receiveFrame
  shiftRegister : u.shiftRegister = w <<< (32 - n)
  bitCount : u.bitCount = BitVec.ofNat 8 n
  slot : SameSlot s u

/-- `u` has all of `w` in its accumulator, and in its slot the frame of `w` where this is valid, and else what `s` has
there (R136, R140). -/
structure Received (s : State) (w : FrameWord) (u : State) : Prop where
  shiftRegister : u.shiftRegister = w
  bitCount : u.bitCount = 32
  emitted : frameValid w = true → u.hasUnreadFrame = true ∧
    u.frame = { address := frameAddress w, command := frameCommand w, repeated := false }
  rejected : frameValid w = false → u.hasUnreadFrame = s.hasUnreadFrame ∧ u.frame = s.frame

/-- From AddressOrRepeat the space of a frame leads to ReceiveFrame with no bit received (40_edge_fsm R106). -/
theorem plays_startSpace {s u : State} (w : FrameWord) (hstate : u.state = .addressOrRepeat) (hslot : SameSlot s u)
    (hfits : s.params.startSpaceUs < 2 ^ 64) :
    ∃ v, Plays [edgeAfter true (paramUs s.params.startSpaceUs)] u v ∧ Receiving s w 0 v := by
  have hclass : classifyAfterStart (beginCycle u).params (paramUs s.params.startSpaceUs) = .frameSpace := by
    rw [beginCycle_params, hslot.params]
    exact classifyAfterStart_startSpace hfits
  have hhigh := plays_high u (paramUs s.params.startSpaceUs) (by rw [hstate]; rfl)
  rw [edgeHigh_addressOrRepeat _ (beginCycle u) hstate, delta_relative,
    edgeAddressOrRepeatHigh_frame _ _ hclass] at hhigh
  exact ⟨_, hhigh, rfl, (BitVec.shiftLeft_eq_zero le_rfl).symm, rfl, hslot.trans ⟨rfl, rfl, rfl⟩⟩

/-- The record of an edge leaves what is being received alone. -/
theorem Receiving.recordEdge {s u : State} {w : FrameWord} {n : Nat} (hu : Receiving s w n u) (ts : Micros) :
    Receiving s w n (recordEdge ts u) :=
  ⟨hu.state, hu.shiftRegister, hu.bitCount, hu.slot.trans ⟨rfl, rfl, rfl⟩⟩

/-- The start of a cycle leaves what is being received alone. -/
theorem Receiving.beginCycle {s u : State} {w : FrameWord} {n : Nat} (hu : Receiving s w n u) :
    Receiving s w n (beginCycle u) :=
  ⟨hu.state, hu.shiftRegister, hu.bitCount, hu.slot.trans ⟨rfl, rfl, rfl⟩⟩

/-- The record of an edge leaves what is received alone. -/
theorem Received.recordEdge {s u : State} {w : FrameWord} (hu : Received s w u) (ts : Micros) :
    Received s w (recordEdge ts u) :=
  ⟨hu.shiftRegister, hu.bitCount, hu.emitted, hu.rejected⟩

/-- The mark of a bit leaves what is received alone (R109). -/
theorem plays_bitMark {s u : State} {w : FrameWord} {n : Nat} (hu : Receiving s w n u) :
    ∃ v, Plays [edgeAfter false markUs] u v ∧ Receiving s w n v := by
  have hlow := plays_low u markUs (by rw [hu.state]; rfl)
  rw [edgeLow_receiveFrame _ (beginCycle u) hu.state] at hlow
  exact ⟨_, hlow, hu.beginCycle.recordEdge _⟩

/-- The space of a bit has this bit accepted (R108). -/
theorem plays_bitSpace {s u : State} {w : FrameWord} {n : Nat} (hu : Receiving s w n u) {us : Micros} {b : Bool}
    (hclass : classifyBit s.params us = .bit b) :
    ∃ ts, Plays [edgeAfter true us] u (recordEdge ts (acceptBit b us (beginCycle u))) := by
  rw [← hu.slot.params] at hclass
  have hhigh := plays_high u us (by rw [hu.state]; rfl)
  rw [edgeHigh_receiveFrame _ (beginCycle u) hu.state, delta_relative,
    edgeReceiveFrameHigh_bit us (beginCycle u) b hclass] at hhigh
  exact ⟨_, hhigh⟩

/-- The two edges of a bit: from what is received before it, the bit is accepted (30_encoding R82). -/
theorem plays_bit {s u : State} {w : FrameWord} {n : Nat} (hu : Receiving s w n u) (hp : s.params.wellFormed = true)
    (hfits : s.params.bit1SpaceUs < 2 ^ 64) (b : Bool) :
    ∃ v ts dt, Receiving s w n v ∧ Plays (expandBit s.params b) u (recordEdge ts (acceptBit b dt v)) := by
  obtain ⟨v, hlow, hv⟩ := plays_bitMark hu
  obtain ⟨ts, hhigh⟩ := plays_bitSpace hv (classifyBit_bitSpace hp hfits b)
  exact ⟨_, _, _, hv.beginCycle, hlow.append hhigh⟩

theorem Receiving.bitCount_succ {s u : State} {w : FrameWord} {n : Nat} (hu : Receiving s w n u) :
    u.bitCount + 1 = BitVec.ofNat 8 (n + 1) := by
  rw [hu.bitCount, BitVec.ofNat_add]; rfl

/-- The next bit of the word, short of the last, is received (R131, R132). -/
theorem Receiving.acceptBit_more {s u : State} {w : FrameWord} {n : Nat} (hu : Receiving s w n u) (hn : n + 1 < 32)
    (dt : Micros) : Receiving s w (n + 1) (acceptBit (w.getLsbD n) dt u) := by
  have hcount : u.bitCount + 1 ≠ 32 := by
    rw [hu.bitCount_succ]
    bv_omega
  have hplace : 32 - (n + 1) = 31 - n := by omega
  rw [Machine.acceptBit_more _ dt u hcount]
  refine ⟨hu.state, ?_, hu.bitCount_succ, hu.slot.trans ⟨rfl, rfl, rfl⟩⟩
  rw [shiftIn_shiftRegister, hu.shiftRegister, shiftWord_shiftLeft w (by omega), hplace]

/-- The last bit of the word completes the frame (R136). -/
theorem Receiving.acceptBit_last {s u : State} {w : FrameWord} (hu : Receiving s w 31 u) (dt : Micros) :
    (acceptBit (w.getLsbD 31) dt u).state = .waitEnd ∧ Received s w (acceptBit (w.getLsbD 31) dt u) := by
  have hcount : u.bitCount + 1 = 32 := hu.bitCount_succ
  have hword : (shiftIn (w.getLsbD 31) u).shiftRegister = w := by
    rw [shiftIn_shiftRegister, hu.shiftRegister, shiftWord_shiftLeft w (by decide)]
    exact BitVec.shiftLeft_zero w
  rw [Machine.acceptBit_last _ dt u hcount]
  cases hvalid : frameValid w with
  | true =>
    rw [completeFrame_valid dt _ (hword.symm ▸ hvalid), hword]
    exact ⟨rfl, rfl, hcount, fun _ => ⟨rfl, rfl⟩, fun h => absurd (hvalid.symm.trans h) nofun⟩
  | false =>
    rw [completeFrame_invalid dt _ (hword.symm ▸ hvalid)]
    exact ⟨rfl, hword, hcount, fun h => absurd (hvalid.symm.trans h) nofun,
      fun _ => ⟨hu.slot.hasUnreadFrame, hu.slot.frame⟩⟩

/-- The last `m + 1` bits of a word, played from where the bits before them are received, complete its frame. -/
theorem plays_bits {s : State} (w : FrameWord) (hp : s.params.wellFormed = true)
    (hfits : s.params.bit1SpaceUs < 2 ^ 64) (m n : Nat) (hn : n + (m + 1) = 32) {u : State} (hu : Receiving s w n u) :
    ∃ v, Plays (expandBits s.params (bitItems w n (m + 1))) u v ∧ v.state = .waitEnd ∧ Received s w v := by
  induction m generalizing n u with
  | zero =>
    obtain rfl : n = 31 := by omega
    obtain ⟨v, ts, dt, hv, hplays⟩ := plays_bit hu hp hfits (w.getLsbD 31)
    obtain ⟨hstate, hreceived⟩ := hv.acceptBit_last dt
    exact ⟨_, hplays.append (.nil _), hstate, hreceived.recordEdge ts⟩
  | succ m ih =>
    obtain ⟨v, ts, dt, hv, hplays⟩ := plays_bit hu hp hfits (w.getLsbD n)
    obtain ⟨x, hrest, hx⟩ := ih (n + 1) (by omega) ((hv.acceptBit_more (by omega) dt).recordEdge ts)
    exact ⟨x, hplays.append hrest, hx⟩

/-! ### A full frame -/

/-- From WaitEnd the end of the last mark leads to Idle, with what is received kept (40_edge_fsm R111). -/
theorem plays_end {s u : State} {w : FrameWord} (hstate : u.state = .waitEnd) (hu : Received s w u) (us : Micros) :
    ∃ v, Plays [edgeAfter false us] u v ∧ v.state = .idle ∧ v.deadlineArmed = false ∧ v.indicator = false ∧
      Received s w v := by
  have hlow := plays_low u us (by rw [hstate]; rfl)
  rw [edgeLow_waitEnd _ (beginCycle u) hstate, edgeWaitEndLow, enterIdle_eq] at hlow
  exact ⟨_, hlow, rfl, rfl, rfl, hu.shiftRegister, hu.bitCount, hu.emitted, hu.rejected⟩

/-- From Idle the edges of RAWFRAME receive the word and lead back to Idle, nothing outstanding (30_encoding R82). -/
theorem plays_rawFrame (s : State) (t : Micros) (w : FrameWord) (hidle : s.state = .idle)
    (hp : s.params.wellFormed = true) (hmark : s.params.startMarkUs < 2 ^ 64)
    (hspace : s.params.startSpaceUs < 2 ^ 64) (hone : s.params.bit1SpaceUs < 2 ^ 64) :
    ∃ u, Plays (expandRawFrame s.params t w) s u ∧ u.state = .idle ∧ u.deadlineArmed = false ∧ u.indicator = false ∧
      Received s w u := by
  obtain ⟨a, hstart, haddress, hslot⟩ := plays_start s t hidle hmark
  obtain ⟨b, hfirst, hb⟩ := plays_startSpace w haddress hslot hspace
  obtain ⟨c, hbits, hwaitEnd, hc⟩ := plays_bits w hp hone 31 0 rfl hb
  obtain ⟨u, hend, hu⟩ := plays_end hwaitEnd hc markUs
  exact ⟨u, ((hstart.append hfirst).append hbits).append hend, hu⟩

/-- The cycles of RAWFRAME begin with an absolute time: they do not depend on an edge before them (R80, R82). -/
theorem traceCycles_rawFrame (p : Params) (t : Micros) (w : FrameWord) (prev : Micros) :
    traceCycles p [.rawFrame t w] = cyclesOf prev (expandRawFrame p t w) := by
  rw [traceCycles, List.flatMap_singleton]
  rfl

/-- Settles O55: the edges of RAWFRAME lead to Idle with the word received, and the placed cycles are these edges. -/
theorem fullFrameDecodesItsWord : Obligations.FullFrameDecodesItsWord := by
  unfold Obligations.FullFrameDecodesItsWord
  intro s t w hidle hp hmark hspace hone
  obtain ⟨u, hplays, hstate, harmed, hindicator, hu⟩ := plays_rawFrame s t w hidle hp hmark hspace hone
  obtain ⟨is, hcycles, hrun, hpending⟩ := hplays.runs
  rw [← traceCycles_rawFrame] at hcycles
  exact ⟨is, u, hcycles, hrun, hstate, hu.shiftRegister, hu.bitCount, harmed, hindicator, hpending, hu.emitted,
    hu.rejected⟩

end Sys2Proof.Machine

/-! The bit accumulator (41_frame_assembly R131, R132, R137): where each received bit stands, and that the places no bit has
reached stay clear. -/

namespace Sys2Proof.Machine

open Sys2Proof

/-! ### The places no bit has reached -/

/-- The low `m` places of a word are clear, bit by bit. -/
theorem toNat_mod_two_pow_eq_zero_iff (w : FrameWord) (m : Nat) :
    w.toNat % 2 ^ m = 0 ↔ ∀ k < m, w.getLsbD k = false := by
  constructor
  · intro h k hk
    have hbit : (w.toNat % 2 ^ m).testBit k = w.getLsbD k := by
      rw [Nat.testBit_mod_two_pow, BitVec.testBit_toNat]; simp [hk]
    rw [← hbit, h, Nat.zero_testBit]
  · intro h
    refine Nat.eq_of_testBit_eq fun k => ?_
    rw [Nat.testBit_mod_two_pow, BitVec.testBit_toNat, Nat.zero_testBit]
    by_cases hk : k < m
    · simp [h k hk]
    · simp [hk]

/-- One more bit shifted in leaves one clear place fewer: the bits above move down, the new one is at the top (R131). -/
theorem shiftWord_keeps_low_clear {w : FrameWord} {n : Nat} (hn : n + 1 < 32) (b : Bool)
    (hclear : w.toNat % 2 ^ (32 - n) = 0) : (shiftWord w b).toNat % 2 ^ (32 - (n + 1)) = 0 := by
  rw [toNat_mod_two_pow_eq_zero_iff] at hclear ⊢
  intro k hk
  rw [getLsbD_shiftWord w b (by omega), if_neg (by omega)]
  exact hclear (k + 1) (by omega)

theorem lowBitsClear_of_not_receiveFrame {s : State} (h : s.state ≠ .receiveFrame) : LowBitsClear s :=
  fun hreceive => absurd hreceive h

/-- The property speaks of the state and the accumulator. -/
theorem LowBitsClear.of_registers {s u : State} (h : LowBitsClear s) (hstate : u.state = s.state)
    (hshift : u.shiftRegister = s.shiftRegister) (hcount : u.bitCount = s.bitCount) : LowBitsClear u := by
  unfold LowBitsClear
  rw [hstate, hshift, hcount]
  exact h

theorem LowBitsClear.timeoutOp {s : State} (h : LowBitsClear s) (hlegal : s.state.isLegal = true) :
    LowBitsClear (timeoutOp s) := by
  obtain ⟨-, heq⟩ | ⟨-, -, heq⟩ | ⟨-, -, heq⟩ := timeoutOp_cases s hlegal
  · rw [heq]; exact h
  · rw [heq]; exact h.of_registers rfl rfl rfl
  · rw [heq, takeError_eq]; exact lowBitsClear_of_not_receiveFrame nofun

/-- A bit short of the 32nd keeps the places that are still to be reached clear (R131, R132). -/
theorem LowBitsClear.shiftIn {s : State} (h : LowBitsClear s) (hstate : s.state = .receiveFrame)
    (hbound : s.bitCount.toNat ≤ 31) (hcount : s.bitCount + 1 ≠ 32) (b : Bool) : LowBitsClear (shiftIn b s) := by
  intro _
  have hsucc : (s.bitCount + 1).toNat = s.bitCount.toNat + 1 := by bv_omega
  have hshort : s.bitCount.toNat + 1 < 32 := by bv_omega
  rw [shiftIn_shiftRegister, shiftIn_bitCount, hsucc]
  exact shiftWord_keeps_low_clear hshort b (h hstate)

/-- Each cell of the state table keeps the unreached places clear: the frame space clears them all, a bit takes one of them,
and every other cell leaves the accumulator alone or is not in ReceiveFrame afterwards. -/
theorem LowBitsClear.cellOutcome {dt : Micros} {s u : State} (h : LowBitsClear s) (hinv : Inv s)
    (hcell : CellOutcome dt s u) : LowBitsClear u := by
  cases hcell with
  | ignored => exact h
  | start | mark | repeatSpace => exact lowBitsClear_of_not_receiveFrame nofun
  | wrongLevel | wrongMark | wrongBit => rw [takeError_eq]; exact lowBitsClear_of_not_receiveFrame nofun
  | frameSpace => exact fun _ => Nat.zero_mod _
  | bit b hstate _ hcount => exact h.shiftIn hstate (hinv.receiveCount hstate) hcount b
  | lastBit b =>
    refine lowBitsClear_of_not_receiveFrame ?_
    rw [(completeFrame_registers dt (Machine.shiftIn b s)).1]
    nofun
  | finish => rw [enterIdle_eq]; exact lowBitsClear_of_not_receiveFrame nofun

/-- Under the invariants a cycle keeps the unreached places clear: both are kept together, a bit needing R40 item 3. -/
theorem LowBitsClear.cycleResult {s : State} (h : LowBitsClear s) (hinv : Inv s) (i : Inputs) :
    LowBitsClear (cycleResult i s) := by
  have hkeeps := cycleResult_keeps (P := fun u => Inv u ∧ LowBitsClear u) (fun _ hu => hu.1.legal)
    (fun u => ⟨inv_resetRegisters u, lowBitsClear_of_not_receiveFrame nofun⟩)
    (fun _ hu => ⟨hu.1.takeOp, hu.2.of_registers rfl rfl rfl⟩)
    (fun _ hu => ⟨hu.1.timeoutOp, hu.2.timeoutOp hu.1.legal⟩)
    (fun _ _ _ _ hu hcell => ⟨(hu.1.cellOutcome hcell).of_registers rfl rfl rfl rfl,
      (hu.2.cellOutcome hu.1 hcell).of_registers rfl rfl rfl⟩)
    i s ⟨hinv.of_registers rfl rfl rfl rfl, h.of_registers rfl rfl rfl⟩
  exact hkeeps.2

/-- Sampling the inputs writes no register. -/
theorem LowBitsClear.afterSampling {s : State} (h : LowBitsClear s) : LowBitsClear (afterSampling s) := by
  unfold Machine.afterSampling
  split
  · exact h.of_registers rfl rfl rfl
  · exact h.of_registers rfl rfl rfl

/-- Settles O49: a step is sampling and a cycle, and under the invariants both keep the unreached places clear. -/
theorem everyStepKeepsUnreachedBitsClear : Obligations.EveryStepKeepsUnreachedBitsClear := by
  unfold Obligations.EveryStepKeepsUnreachedBitsClear
  intro s t hinv hclear hstep
  rw [step_eq, Host.Outcome.next.injEq] at hstep
  exact hstep ▸ hclear.afterSampling.cycleResult hinv.afterSampling _

/-! ### Where the received bits stand -/

/-- Settles O43: the shift is read off bit by bit, the count is the register's own successor. -/
theorem shiftInPlacesTheNewBitAtTheTop : Obligations.ShiftInPlacesTheNewBitAtTheTop := by
  unfold Obligations.ShiftInPlacesTheNewBitAtTheTop
  refine fun s b => ⟨?_, fun k hk => ?_, shiftIn_bitCount s b⟩
  · rw [shiftIn_shiftRegister, getLsbD_shiftWord _ _ (by decide), if_pos rfl]
  · rw [shiftIn_shiftRegister, getLsbD_shiftWord _ _ (by omega), if_neg (by omega)]

/-- At most 32 received bits stand at the top of the register, in their order, the latest at bit 31 (R131, R137). -/
theorem getLsbD_shiftRegister_received (bits : List Bool) (s : State) (hlength : bits.length ≤ 32) {k : Nat}
    (hk : k < bits.length) :
    (bits.foldl (fun u b => shiftIn b u) s).shiftRegister.getLsbD (32 - bits.length + k) = bits.getD k false := by
  induction bits using List.reverseRecOn generalizing k with
  | nil => cases hk
  | append_singleton bits b ih =>
    rw [List.length_append, List.length_singleton] at hlength hk ⊢
    rw [List.foldl_concat, shiftIn_shiftRegister, getLsbD_shiftWord _ _ (by omega)]
    split_ifs with htop
    · obtain rfl : k = bits.length := by omega
      simp
    · have hearlier : k < bits.length := by omega
      have hplace : 32 - (bits.length + 1) + k + 1 = 32 - bits.length + k := by omega
      rw [hplace, ih (by omega) hearlier, List.getD_append _ _ _ _ hearlier]

/-- Bit `k` of the byte at place `start` of a word. -/
theorem getLsbD_byteAt (w : FrameWord) (start : Nat) {k : Nat} (hk : k < 8) :
    (w.extractLsb' start 8).getLsbD k = w.getLsbD (start + k) := by
  simp [hk]

/-- Settles O44: 32 received bits fill the register, and the bytes are its ranges. -/
theorem receivedBitKStandsAtBitK : Obligations.ReceivedBitKStandsAtBitK := by
  unfold Obligations.ReceivedBitKStandsAtBitK
  rintro bits s hlength t rfl
  have hplace (k : Nat) (hk : k < 32) :
      (bits.foldl (fun u b => shiftIn b u) s).shiftRegister.getLsbD k = bits.getD k false := by
    simpa [hlength] using getLsbD_shiftRegister_received bits s hlength.le (hlength ▸ hk)
  refine ⟨hplace, fun k hk => ⟨?_, ?_, ?_, ?_⟩⟩
  · rw [frameAddress, getLsbD_byteAt _ _ hk, hplace _ (by omega), Nat.zero_add]
  · rw [frameAddressInverse, getLsbD_byteAt _ _ hk, hplace _ (by omega)]
  · rw [frameCommand, getLsbD_byteAt _ _ hk, hplace _ (by omega)]
  · rw [frameCommandInverse, getLsbD_byteAt _ _ hk, hplace _ (by omega)]

end Sys2Proof.Machine

/-! The fields of a received word and their validation (41_frame_assembly R133 to R136, R140). -/

namespace Sys2Proof.Machine

open Sys2Proof

/-- Settles O45: each field continues the range of the one below it, up to the whole word. -/
theorem fieldsAreTheConcreteBitRanges : Obligations.FieldsAreTheConcreteBitRanges := by
  unfold Obligations.FieldsAreTheConcreteBitRanges frameCommandInverse frameCommand frameAddressInverse frameAddress
  intro w
  rw [BitVec.extractLsb'_append_extractLsb'_eq_extractLsb' (by rfl),
    BitVec.extractLsb'_append_extractLsb'_eq_extractLsb' (by rfl),
    BitVec.extractLsb'_append_extractLsb'_eq_extractLsb' (by rfl)]
  exact BitVec.extractLsb'_eq_self

/-- A byte and its complement sum to 0xFF, and no other byte does with it (R135). -/
theorem byte_add_eq_0xFF_iff (x y : Byte) : x + y = 0xFF ↔ y = ~~~x := by
  have hsum : x + ~~~x = 0xFF := BitVec.add_not_self x
  rw [← hsum, add_right_inj]

/-- Validation is the two sums of R134. -/
theorem frameValid_iff_sums (w : FrameWord) :
    frameValid w = true ↔
      frameCommand w + frameCommandInverse w = 0xFF ∧ frameAddress w + frameAddressInverse w = 0xFF := by
  simp [frameValid]

/-- Validation accepts the frames whose inverses are the complements (R135). -/
theorem frameValid_iff_complements (w : FrameWord) :
    frameValid w = true ↔
      frameAddressInverse w = ~~~(frameAddress w) ∧ frameCommandInverse w = ~~~(frameCommand w) := by
  rw [frameValid_iff_sums, byte_add_eq_0xFF_iff, byte_add_eq_0xFF_iff, and_comm]

/-- Settles O46: the two sums of R134, each the complement of R135. -/
theorem validationAcceptsExactlyComplements : Obligations.ValidationAcceptsExactlyComplements := by
  unfold Obligations.ValidationAcceptsExactlyComplements
  exact ⟨byte_add_eq_0xFF_iff, frameValid_iff_complements⟩

/-- Settles O24: the cell completes the frame of the shifted word, which validation accepts or rejects. -/
theorem lastBitCompletesTheFrame : Obligations.LastBitCompletesTheFrame := by
  unfold Obligations.LastBitCompletesTheFrame
  rintro s ts b hstate hcount hclass w rfl
  rw [exec_edgeHigh, edgeHigh_receiveFrame ts s hstate, edgeReceiveFrameHigh_bit (delta s ts) s b hclass,
    acceptBit_last b _ s hcount, ← hcount]
  refine ⟨fun hsums => ?_, fun hsums => ?_⟩
  · have hvalid : frameValid (shiftIn b s).shiftRegister = true := (frameValid_iff_sums _).mpr hsums
    rw [completeFrame_valid _ _ hvalid]; rfl
  · have hinvalid : frameValid (shiftIn b s).shiftRegister = false :=
      Bool.eq_false_iff.mpr fun hvalid => hsums ((frameValid_iff_sums _).mp hvalid)
    rw [completeFrame_invalid _ _ hinvalid]; rfl

end Sys2Proof.Machine

/-! What a consumer gets from the sequences of R82: a frame's address and command, and the last payload for a repeat code
(41_frame_assembly R141, R142, 40_edge_fsm R112). -/

namespace Sys2Proof.Machine

open Sys2Proof

/-! ### A frame that is sent and taken -/

/-- The fields of the word that FRAME sends (30_encoding R82). -/
theorem frameWord_fields (a c : Byte) :
    frameAddress (frameWord a c) = a ∧ frameAddressInverse (frameWord a c) = ~~~a ∧
      frameCommand (frameWord a c) = c ∧ frameCommandInverse (frameWord a c) = ~~~c := by
  unfold frameAddress frameAddressInverse frameCommand frameCommandInverse frameWord
  refine ⟨?_, ?_, ?_, ?_⟩
  · exact BitVec.extractLsb'_append_eq_right
  · rw [BitVec.extractLsb'_append_eq_of_le (by decide)]
    exact BitVec.extractLsb'_append_eq_right
  · rw [BitVec.extractLsb'_append_eq_of_le (by decide), BitVec.extractLsb'_append_eq_of_le (by decide)]
    exact BitVec.extractLsb'_append_eq_right
  · rw [BitVec.extractLsb'_append_eq_of_le (by decide), BitVec.extractLsb'_append_eq_of_le (by decide)]
    exact BitVec.extractLsb'_append_eq_left

/-- FRAME sends a valid frame (R135). -/
theorem frameValid_frameWord (a c : Byte) : frameValid (frameWord a c) = true := by
  obtain ⟨haddress, haddressInverse, hcommand, hcommandInverse⟩ := frameWord_fields a c
  rw [frameValid_iff_complements, haddress, haddressInverse, hcommand, hcommandInverse]
  exact ⟨rfl, rfl⟩

/-- A TAKE alone in its cycle returns the slot and clears the flag (44_consumer_read R200). -/
theorem cycleResult_take (s : State) :
    takePorts (cycleResult (encode .take) s).out = (s.hasUnreadFrame, s.frame) ∧
      (cycleResult (encode .take) s).hasUnreadFrame = false := by
  have hsilent : emission (encode .take) s = none := emission_eq_none_of_not_high _ s (.inr (.inl nofun))
  refine ⟨cycleResult_takePorts _ s, ?_⟩
  rw [cycleResult_hasUnreadFrame _ s rfl, hsilent]
  rfl

/-- Settles O56: FRAME is the raw frame of a valid word, whose fields are the address and the command. -/
theorem frameRoundTrip : Obligations.FrameRoundTrip := by
  unfold Obligations.FrameRoundTrip
  intro s t a c hidle hp hmark hspace hone
  obtain ⟨is, u, hcycles, hrun, -, -, -, -, -, -, hemitted, -⟩ :=
    fullFrameDecodesItsWord s t (frameWord a c) hidle hp hmark hspace hone
  obtain ⟨haddress, -, hcommand, -⟩ := frameWord_fields a c
  obtain ⟨hunread, hframe⟩ := hemitted (frameValid_frameWord a c)
  rw [haddress, hcommand] at hframe
  obtain ⟨hports, hcleared⟩ := cycleResult_take u
  rw [hunread, hframe] at hports
  simp only [takePorts, Prod.mk.injEq, DecodedFrame.mk.injEq] at hports
  obtain ⟨hvalid, htakeAddress, htakeCommand, htakeRepeated⟩ := hports
  exact ⟨is, u, hcycles, hrun, hframe, hunread, _, runCycle_eq _ u, hvalid, htakeAddress, htakeCommand, htakeRepeated,
    hcleared⟩

/-! ### A repeat code -/

/-- The space of a repeat code is classified as such, R13 (c) keeping it below the window of the frame space
(42_timing_windows R166). -/
theorem classifyAfterStart_repeatSpace {p : Params} (hp : p.wellFormed = true) (h : p.repeatSpaceUs < 2 ^ 64) :
    classifyAfterStart p (paramUs p.repeatSpaceUs) = .repeatSpace := by
  obtain ⟨-, -, hspaces⟩ := p.wellFormed_iff.mp hp
  have hrepeat := inRange_paramUs h p.longTolUs
  have hframe : ¬ isFrameSpace p (paramUs p.repeatSpaceUs) = true :=
    fun hframe => inRange_disjoint hspaces _ ⟨hrepeat, hframe⟩
  exact (if_neg hframe).trans (if_pos hrepeat)

/-- From AddressOrRepeat the space of a repeat code marks the payload repeated and leads to WaitEnd (40_edge_fsm R106). -/
theorem plays_repeatSpace (s : State) (hstate : s.state = .addressOrRepeat) (hp : s.params.wellFormed = true)
    (hfits : s.params.repeatSpaceUs < 2 ^ 64) :
    ∃ u, Plays [edgeAfter true (paramUs s.params.repeatSpaceUs)] s u ∧ u.state = .waitEnd ∧
      u.hasUnreadFrame = true ∧ u.frame = { s.frame with repeated := true } := by
  have hclass : classifyAfterStart (beginCycle s).params (paramUs s.params.repeatSpaceUs) = .repeatSpace :=
    classifyAfterStart_repeatSpace hp hfits
  have hhigh := plays_high s (paramUs s.params.repeatSpaceUs) (by rw [hstate]; rfl)
  rw [edgeHigh_addressOrRepeat _ (beginCycle s) hstate, delta_relative,
    edgeAddressOrRepeatHigh_repeat _ _ hclass] at hhigh
  exact ⟨_, hhigh, rfl, rfl, rfl⟩

/-- From WaitEnd a LOW edge leads to Idle with the slot kept (R111). -/
theorem plays_waitEnd_low (s : State) (us : Micros) (hstate : s.state = .waitEnd) :
    ∃ u, Plays [edgeAfter false us] s u ∧ u.state = .idle ∧ SameSlot s u := by
  have hlow := plays_low s us (by rw [hstate]; rfl)
  rw [edgeLow_waitEnd _ (beginCycle s) hstate, edgeWaitEndLow, enterIdle_eq] at hlow
  exact ⟨_, hlow, rfl, rfl, rfl, rfl⟩

/-- From Idle the edges of REPEAT mark the payload repeated and lead back to Idle (30_encoding R82, R112). -/
theorem plays_repeat (s : State) (t : Micros) (hidle : s.state = .idle) (hp : s.params.wellFormed = true)
    (hmark : s.params.startMarkUs < 2 ^ 64) (hspace : s.params.repeatSpaceUs < 2 ^ 64) :
    ∃ u, Plays (expandRepeat s.params t) s u ∧ u.state = .idle ∧ u.hasUnreadFrame = true ∧
      u.frame = { s.frame with repeated := true } := by
  obtain ⟨a, hstart, haddress, hslot⟩ := plays_start s t hidle hmark
  rw [← hslot.params] at hp hspace
  obtain ⟨b, hrepeat, hwaitEnd, hunread, hframe⟩ := plays_repeatSpace a haddress hp hspace
  obtain ⟨u, hend, hstate, hkept⟩ := plays_waitEnd_low b markUs hwaitEnd
  rw [hslot.params] at hrepeat
  refine ⟨u, hstart.append (hrepeat.append hend), hstate, hkept.hasUnreadFrame.trans hunread, ?_⟩
  rw [hkept.frame, hframe, hslot.frame]

/-- The cycles of REPEAT begin with an absolute time: they do not depend on an edge before them (R80, R82). -/
theorem traceCycles_repeatCode (p : Params) (t : Micros) (prev : Micros) :
    traceCycles p [.repeatCode t] = cyclesOf prev (expandRepeat p t) := by
  rw [traceCycles, List.flatMap_singleton]
  rfl

/-- Settles O57: the edges of REPEAT keep the payload and lead to Idle, and the placed cycles are these edges. -/
theorem repeatCodeKeepsThePayload : Obligations.RepeatCodeKeepsThePayload := by
  unfold Obligations.RepeatCodeKeepsThePayload
  intro s t hidle hp hmark hspace
  obtain ⟨u, hplays, hstate, hunread, hframe⟩ := plays_repeat s t hidle hp hmark hspace
  obtain ⟨is, hcycles, hrun, -⟩ := hplays.runs
  rw [← traceCycles_repeatCode] at hcycles
  exact ⟨is, u, hcycles, hrun, hstate, hunread, hframe⟩

end Sys2Proof.Machine

/-! The timing windows (42_timing_windows R160 to R170): each default window by its bounds, each classifier by its tests in their
order, and the interval of a timestamp that goes forward or back. -/

namespace Sys2Proof.Machine

open Sys2Proof

/-! ### The window test -/

/-- Settles O38: each bound of the window is one side of the absolute difference. -/
theorem windowIsAbsoluteDifference : Obligations.WindowIsAbsoluteDifference := by
  unfold Obligations.WindowIsAbsoluteDifference
  intro d target tol
  rw [inRange_iff, abs_sub_le_iff]
  omega

/-- A window by its two bounds: around the target, the tolerance away from it (R162). -/
theorem inRange_iff_bounds {target tol low high : Nat} (hlow : low + tol = target) (hhigh : target + tol = high)
    (d : Micros) : inRange d target tol = true ↔ low ≤ d.toNat ∧ d.toNat ≤ high := by
  rw [inRange_iff]
  omega

/-! ### The classifiers -/

/-- Two tests in order: what each of three different answers says about the tests (R166, R167). -/
theorem two_tests_eq_iff {α : Type} {x y z : α} (hxy : x ≠ y) (hxz : x ≠ z) (hyz : y ≠ z) (first second : Bool) :
    ((if first then x else if second then y else z) = x ↔ first = true) ∧
    ((if first then x else if second then y else z) = y ↔ first = false ∧ second = true) ∧
    ((if first then x else if second then y else z) = z ↔ first = false ∧ second = false) := by
  cases first with
  | true => simp [hxy, hxz]
  | false =>
    cases second with
    | true => simp [hxy.symm, hyz]
    | false => simp [hxz.symm, hyz.symm]

/-- The class after the start mark says which windows the interval is in (R166). -/
theorem classifyAfterStart_eq_iff (p : Params) (d : Micros) :
    (classifyAfterStart p d = .frameSpace ↔ isFrameSpace p d = true) ∧
    (classifyAfterStart p d = .repeatSpace ↔ isFrameSpace p d = false ∧ isRepeatSpace p d = true) ∧
    (classifyAfterStart p d = .noMatch ↔ isFrameSpace p d = false ∧ isRepeatSpace p d = false) :=
  two_tests_eq_iff (by decide) (by decide) (by decide) _ _

/-- The class of a bit's space says which bit windows the interval is in (R167). -/
theorem classifyBit_eq_iff (p : Params) (d : Micros) :
    (classifyBit p d = .bit false ↔ inRange d p.bit0SpaceUs p.bitTolUs = true) ∧
    (classifyBit p d = .bit true ↔
      inRange d p.bit0SpaceUs p.bitTolUs = false ∧ inRange d p.bit1SpaceUs p.bitTolUs = true) ∧
    (classifyBit p d = .noBit ↔
      inRange d p.bit0SpaceUs p.bitTolUs = false ∧ inRange d p.bit1SpaceUs p.bitTolUs = false) :=
  two_tests_eq_iff (by decide) (by decide) (by decide) _ _

/-- Settles O40: the windows are their definitions (R163 to R165), and each class says which tests came before it. -/
theorem classifiersTestInOrder : Obligations.ClassifiersTestInOrder := by
  unfold Obligations.ClassifiersTestInOrder
  intro p d
  obtain ⟨hframe, hrepeat, hnone⟩ := classifyAfterStart_eq_iff p d
  exact ⟨rfl, rfl, rfl, hframe, hrepeat, hnone, classifyBit_eq_iff p d⟩

/-! ### The default windows -/

theorem isStartMark_default_iff (d : Micros) :
    isStartMark Params.default d = true ↔ 8500 ≤ d.toNat ∧ d.toNat ≤ 9500 :=
  inRange_iff_bounds (by decide) (by decide) d

theorem isFrameSpace_default_iff (d : Micros) :
    isFrameSpace Params.default d = true ↔ 4000 ≤ d.toNat ∧ d.toNat ≤ 5000 :=
  inRange_iff_bounds (by decide) (by decide) d

theorem isRepeatSpace_default_iff (d : Micros) :
    isRepeatSpace Params.default d = true ↔ 1750 ≤ d.toNat ∧ d.toNat ≤ 2750 :=
  inRange_iff_bounds (by decide) (by decide) d

theorem classifyBit_default_eq_zero_iff (d : Micros) :
    classifyBit Params.default d = .bit false ↔ 250 ≤ d.toNat ∧ d.toNat ≤ 750 :=
  (classifyBit_eq_iff _ d).1.trans (inRange_iff_bounds (by decide) (by decide) d)

/-- The test of bit 0, which comes first, takes nothing from the window of bit 1: R13 (b) separates the two (R167). -/
theorem classifyBit_default_eq_one_iff (d : Micros) :
    classifyBit Params.default d = .bit true ↔ 1350 ≤ d.toNat ∧ d.toNat ≤ 1850 := by
  have hone : inRange d Params.default.bit1SpaceUs Params.default.bitTolUs = true ↔
      1350 ≤ d.toNat ∧ d.toNat ≤ 1850 := inRange_iff_bounds (by decide) (by decide) d
  obtain ⟨hdefault, hdisjoint⟩ := parameterConditionsMakeWindowsDisjoint
  obtain ⟨hbits, -⟩ := hdisjoint Params.default d hdefault
  obtain ⟨-, hclass, -⟩ := classifyBit_eq_iff Params.default d
  rw [hclass, ← hone]
  exact and_iff_right_of_imp fun hin => Bool.eq_false_iff.mpr fun hzero => hbits ⟨hzero, hin⟩

/-- Settles O39: the bounds of each window are the target less and plus the tolerance. -/
theorem defaultWindowBounds : Obligations.DefaultWindowBounds := by
  unfold Obligations.DefaultWindowBounds
  exact fun d => ⟨isStartMark_default_iff d, isFrameSpace_default_iff d, isRepeatSpace_default_iff d,
    classifyBit_default_eq_zero_iff d, classifyBit_default_eq_one_iff d⟩

/-- An interval below the lowest default bound or above the highest one is in no default window (R169). -/
theorem outside_default_windows {d : Micros} (hout : d.toNat < 250 ∨ 9500 < d.toNat) :
    isStartMark Params.default d = false ∧ classifyAfterStart Params.default d = .noMatch ∧
      classifyBit Params.default d = .noBit := by
  refine ⟨?_, ?_, ?_⟩
  · rw [Bool.eq_false_iff, ne_eq, isStartMark_default_iff]
    omega
  · obtain ⟨-, -, hnone⟩ := classifyAfterStart_eq_iff Params.default d
    rw [hnone, Bool.eq_false_iff, Bool.eq_false_iff, ne_eq, ne_eq,
      isFrameSpace_default_iff, isRepeatSpace_default_iff]
    omega
  · cases hclass : classifyBit Params.default d with
    | noBit => rfl
    | bit b =>
      cases b with
      | false =>
        rw [classifyBit_default_eq_zero_iff] at hclass
        omega
      | true =>
        rw [classifyBit_default_eq_one_iff] at hclass
        omega

/-! ### The interval -/

/-- The interval of a timestamp not before the last one is their difference (R160). -/
theorem toNat_delta_of_le {s : State} {ts : Micros} (h : s.lastEdgeTimestamp.toNat ≤ ts.toNat) :
    (delta s ts).toNat = ts.toNat - s.lastEdgeTimestamp.toNat :=
  BitVec.toNat_sub_of_le h

/-- The interval of a timestamp that goes back wraps around (R170). -/
theorem toNat_delta_of_lt {s : State} {ts : Micros} (h : ts.toNat < s.lastEdgeTimestamp.toNat) :
    (delta s ts).toNat = 2 ^ 64 - (s.lastEdgeTimestamp.toNat - ts.toNat) :=
  BitVec.toNat_sub_of_lt h

/-- Settles O42: an equal timestamp gives the interval 0, an earlier one an interval above every default window unless the step
back is nearly a whole turn. -/
theorem backwardTimestampsMatchNoWindow : Obligations.BackwardTimestampsMatchNoWindow := by
  unfold Obligations.BackwardTimestampsMatchNoWindow
  refine fun s ts => ⟨toNat_delta_of_le, toNat_delta_of_lt, fun hback hstep => outside_default_windows ?_⟩
  obtain hlt | heq := hback.lt_or_eq
  · rw [toNat_delta_of_lt hlt]
    omega
  · rw [toNat_delta_of_le heq.ge]
    omega

end Sys2Proof.Machine

/-! The deadline guard (43_deadline_guard R181 to R186): the entry actions, TIMEOUT as what exec answers, and a timeout followed by
a fresh start. -/

namespace Sys2Proof.Machine

open Sys2Proof

/-! ### The entry actions -/

/-- With nothing outstanding there is nothing to cancel (R185). -/
theorem cancelDeadline_of_disarmed (s : State) (h : s.deadlineArmed = false) : cancelDeadline s = s := by
  simp only [cancelDeadline, h, Bool.false_eq_true, if_false]

/-- Settles O17: entering Idle cancels exactly where a deadline is outstanding. -/
theorem entryActionsArmAndCancel : Obligations.EntryActionsArmAndCancel := by
  unfold Obligations.EntryActionsArmAndCancel
  refine fun s => ⟨enterWaitForStart_eq s, fun harmed => ?_, fun hdisarmed => ?_⟩
  · rw [enterIdle_eq, harmed, Bool.true_or]
  · exact cancelDeadline_of_disarmed (setIndicator false (setState .idle s)) hdisarmed

/-! ### TIMEOUT -/

theorem exec_timeout (s : State) : exec .timeout s = .next (timeoutOp s) := rfl

/-- Where an honoured fire forces Idle (R181, R182). -/
theorem timeoutForcesIdle_iff (s : State) :
    timeoutForcesIdle s = true ↔ s.state = .waitForStart ∨ (s.params.timeoutAnyState = true ∧ s.state ≠ .idle) := by
  simp [timeoutForcesIdle]

/-- Settles O14: TIMEOUT looks at the deadline bit first. -/
theorem staleFireChangesNothing : Obligations.StaleFireChangesNothing := by
  unfold Obligations.StaleFireChangesNothing
  intro s hdisarmed
  rw [exec_timeout, timeoutOp_stale s hdisarmed]

/-- Settles O15: an honoured fire goes one of two ways, by whether it forces Idle. -/
theorem honouredFireConsumesTheDeadline : Obligations.HonouredFireConsumesTheDeadline := by
  unfold Obligations.HonouredFireConsumesTheDeadline
  refine ⟨staleFireChangesNothing, fun s hlegal harmed => ?_⟩
  rw [exec_timeout, ← timeoutForcesIdle_iff, Bool.not_eq_true]
  refine ⟨fun hforces => ?_, fun hkeeps => ?_⟩
  · rw [timeoutOp_forces s harmed hlegal hforces]
  · rw [timeoutOp_consumes s harmed hlegal hkeeps]

/-! ### A timeout, then a fresh start -/

/-- Every operation alone in its cycle is well formed and decodes back (30_encoding R75 to R77). -/
theorem singleCycle_statement (a : Instr) : Laws.SingleCycle.Statement a :=
  match a with
  | .reset => Laws.SingleCycle.reset
  | .take => Laws.SingleCycle.take
  | .timeout => Laws.SingleCycle.timeout
  | .edgeHigh ts => Laws.SingleCycle.edgeHigh ts
  | .edgeLow ts => Laws.SingleCycle.edgeLow ts
  | .nop => Laws.SingleCycle.nop

/-- The ports that present one operation carry exactly it. -/
theorem opsOfInputs_encode (a : Instr) : opsOfInputs (encode a) = [a] := by
  obtain ⟨-, -, -, -, hops⟩ := singleCycle_statement a
  exact hops

/-- A cycle with one operation: the default outputs, the operation, the recovery (45_control R222). -/
theorem cycleResult_encode (a : Instr) (s : State) :
    cycleResult (encode a) s = recoverUnreachable (opResult a (beginCycle s)) := by
  rw [cycleResult, opsOfInputs_encode, List.foldl_cons, List.foldl_nil]

/-- A fire for the outstanding deadline of WaitForStart leaves Idle with StartTimeout on the ports and no cancel (R181). -/
theorem cycleResult_timeout_of_waitForStart (s : State) (hstate : s.state = .waitForStart)
    (harmed : s.deadlineArmed = true) :
    cycleResult (encode .timeout) s =
      { s with
        state := .idle, indicator := false, deadlineArmed := false
        out := { defaultOutputs s with diagValid := true, diagCode := 5, diagDelta := 0 } } := by
  have hforces : timeoutForcesIdle (beginCycle s) = true := (timeoutForcesIdle_iff _).mpr (.inl hstate)
  have hlegal : (beginCycle s).state.isLegal = true := by rw [beginCycle_state, hstate]; rfl
  rw [cycleResult_encode, opResult, timeoutOp_forces (beginCycle s) harmed hlegal hforces]
  exact recoverUnreachable_legal _ rfl

/-- A HIGH edge in Idle arms a fresh deadline (R184; 40_edge_fsm R102). -/
theorem cycleResult_edgeHigh_of_idle (ts : Micros) (s : State) (hstate : s.state = .idle) :
    cycleResult (encode (.edgeHigh ts)) s =
      { s with
        state := .waitForStart, indicator := true, deadlineArmed := true, lastEdgeTimestamp := ts
        out := { defaultOutputs s with timerArm := true } } := by
  rw [cycleResult_encode, opResult, edgeHigh_idle ts (beginCycle s) hstate, edgeIdleHigh, enterWaitForStart_eq]
  exact recoverUnreachable_legal _ rfl

/-- Settles O16: in WaitForStart the invariant has a deadline outstanding, so the fire is honoured and leaves Idle, where every
HIGH edge starts. -/
theorem timeoutRecoversToAFreshStart : Obligations.TimeoutRecoversToAFreshStart := by
  unfold Obligations.TimeoutRecoversToAFreshStart
  intro s hinv hstate
  refine ⟨_, runCycle_eq (encode .timeout) s, ?_⟩
  rw [cycleResult_timeout_of_waitForStart s hstate (hinv.waitArmed hstate)]
  refine ⟨rfl, rfl, rfl, rfl, rfl, fun ts => ⟨_, runCycle_eq (encode (.edgeHigh ts)) _, ?_⟩⟩
  rw [cycleResult_edgeHigh_of_idle ts _ rfl]
  exact ⟨rfl, rfl, rfl, rfl, rfl⟩

end Sys2Proof.Machine

/-! The consumer's read (44_consumer_read R200 to R203): TAKE as what exec answers, the `take_*` ports of every cycle, and a TAKE
in the cycle of an emission. Each is the slot's cycle laws above, read port by port. -/

namespace Sys2Proof.Machine

open Sys2Proof

/-- The slot on the ports and the flag cleared, as one update of the state (R200). -/
theorem takeOp_eq (s : State) :
    takeOp s =
      { s with
        hasUnreadFrame := false
        out := { s.out with
          takeValid := s.hasUnreadFrame, takeAddress := s.frame.address, takeCommand := s.frame.command
          takeRepeated := s.frame.repeated } } := rfl

/-- Settles O9: TAKE is the one update of `takeOp_eq`, which names no other field. -/
theorem takeShowsSlotAndClearsFlag : Obligations.TakeShowsSlotAndClearsFlag := by
  unfold Obligations.TakeShowsSlotAndClearsFlag
  intro s
  rw [exec_eq, opResult, takeOp_eq]

/-- The `take_*` ports show a flag and a payload exactly when each port shows its field of them. -/
theorem takePorts_eq_pair_iff (o : Outputs) (flag : Bool) (f : DecodedFrame) :
    takePorts o = (flag, f) ↔
      o.takeAddress = f.address ∧ o.takeCommand = f.command ∧ o.takeRepeated = f.repeated ∧ o.takeValid = flag := by
  rw [takePorts, Prod.mk.injEq, DecodedFrame.mk.injEq]
  tauto

/-- Settles O10: no sub-step after TAKE drives the `take_*` ports, so they keep the defaults or what TAKE showed. -/
theorem takeOutputsShowTheSlotAtTheStart : Obligations.TakeOutputsShowTheSlotAtTheStart := by
  unfold Obligations.TakeOutputsShowTheSlotAtTheStart
  intro i s
  exact ⟨_, runCycle_eq i s, (takePorts_eq_pair_iff _ _ _).mp (cycleResult_takePorts i s)⟩

/-- Settles O11: the emission comes after the TAKE of its cycle, so its set is the last write of the flag. -/
theorem emissionWinsOverTake : Obligations.EmissionWinsOverTake := by
  unfold Obligations.EmissionWinsOverTake
  intro i s hrst
  refine ⟨_, runCycle_eq i s, fun htake => ?ports, ?flag, cycleResult_frame i s hrst⟩
  case ports =>
    obtain ⟨haddress, hcommand, hrepeated, hvalid⟩ := (takePorts_eq_pair_iff _ _ _).mp (cycleResult_takePorts i s)
    rw [hrst, htake] at hvalid
    exact ⟨hvalid, haddress, hcommand, hrepeated⟩
  case flag =>
    rw [cycleResult_hasUnreadFrame i s hrst]
    cases (emission i s).isSome with
    | true => rfl
    | false =>
      cases i.takeReq with
      | true => rfl
      | false => rfl

end Sys2Proof.Machine

/-! The control of a cycle (45_control R220 to R225): RESET and NOP, the cycle as R222 writes it, and that a cycle raises at most one
diagnostic, emits at most once and never both arms and cancels the deadline. -/

namespace Sys2Proof.Machine

open Sys2Proof

/-! ### A cycle of one operation -/

/-- A cycle that carries one operation: the default outputs, the operation, the recovery (R222). -/
theorem cycleResult_of_single {i : Inputs} {a : Instr} (hops : opsOfInputs i = [a]) (s : State) :
    cycleResult i s = recoverUnreachable (opResult a (beginCycle s)) := by
  rw [cycleResult, hops, List.foldl_cons, List.foldl_nil]

/-- A cycle without a strobe carries NOP alone (R220; 30_encoding R75). -/
theorem opsOfInputs_of_no_strobe {i : Inputs} (hrst : i.rst = false) (hstrobes : strobes i = []) :
    opsOfInputs i = [.nop] := by
  rw [opsOfInputs_eq_strobes, hrst, if_neg Bool.false_ne_true, if_pos hstrobes]

/-- Settles O30: no operation stops, so the step is the cycle of its one operation. -/
theorem stepRunsTheDecodedOperation : Obligations.StepRunsTheDecodedOperation := by
  unfold Obligations.StepRunsTheDecodedOperation
  intro s a hops
  rw [step_eq, cycleResult_of_single hops, exec_eq]

/-- Settles O7: RESET is alone in its cycle, and it writes the registers only, so the ports keep the defaults. -/
theorem resetWritesEveryRegister : Obligations.ResetWritesEveryRegister := by
  unfold Obligations.ResetWritesEveryRegister
  refine ⟨exec_eq .reset, fun i s hrst => ?_⟩
  rw [runCycle_eq_next_iff, cycleResult_reset i s hrst, resetRegisters, beginCycle, defaultOutputs]

/-- Settles O8: with no strobe NOP is alone in its cycle, and a legal state has nothing to recover. -/
theorem nopCycleChangesNoRegister : Obligations.NopCycleChangesNoRegister := by
  unfold Obligations.NopCycleChangesNoRegister
  refine ⟨exec_eq .nop, fun i s hrst htake hfire hvalid hlegal => ?_⟩
  have hops : opsOfInputs i = [.nop] := opsOfInputs_of_no_strobe hrst ((strobes_eq_nil_iff i).mpr ⟨htake, hfire, hvalid⟩)
  refine ⟨hops, ?_⟩
  rw [runCycle_eq_next_iff, cycleResult_of_single hops, opResult, recoverUnreachable_legal (beginCycle s) hlegal,
    beginCycle, defaultOutputs]

/-! ### The fixed order -/

/-- The TAKE sub-step is exec where the strobe is there (R222). -/
theorem exec_takePart (i : Inputs) (s : State) :
    (if i.takeReq then exec .take s else .next s) = .next (takePart i s) :=
  (apply_ite Host.Outcome.next _ _ _).symm

/-- The TIMEOUT sub-step is exec where the strobe is there (R222). -/
theorem exec_timeoutPart (i : Inputs) (s : State) :
    (if i.timerFire then exec .timeout s else .next s) = .next (timeoutPart i s) :=
  (apply_ite Host.Outcome.next _ _ _).symm

/-- The EDGE sub-step is exec of the given level where the strobe is there (R222). -/
theorem exec_edgePart (i : Inputs) (s : State) :
    (if i.edgeValid then (if i.edgeLevel then exec (.edgeHigh i.edgeTs) s else exec (.edgeLow i.edgeTs) s)
      else .next s) = .next (edgePart i s) := by
  rw [edgePart, apply_ite Host.Outcome.next, apply_ite Host.Outcome.next, exec_edgeHigh, exec_edgeLow]

/-- Settles O31: RESET is alone, an unreachable code recovers after its TAKE, and from a legal state the EDGE ends the cycle. -/
theorem cycleFollowsTheFixedOrder : Obligations.CycleFollowsTheFixedOrder := by
  unfold Obligations.CycleFollowsTheFixedOrder
  intro i s s0 sTake sTimeout hbegin htake htimeout
  obtain rfl : s0 = beginCycle s := hbegin
  rw [exec_takePart, Host.Outcome.next.injEq] at htake
  rw [exec_timeoutPart, Host.Outcome.next.injEq] at htimeout
  obtain rfl : beforeEdge i s = sTimeout := by rw [beforeEdge, htake, htimeout]
  subst htake
  rw [runCycle_eq, exec_edgePart]
  cases hrst : i.rst with
  | true => rw [if_pos rfl, cycleResult_reset i s hrst, exec_eq, opResult]
  | false =>
    rw [if_neg Bool.false_ne_true]
    cases hlegal : s.state.isLegal with
    | false =>
      have hcode : (takePart i (beginCycle s)).state = s.state := (takePart_keeps i (beginCycle s)).1
      rw [if_pos rfl, cycleResult_unreachable i s hlegal hrst,
        recoverUnreachable_unreachable _ (by rw [hcode, hlegal])]
    | true => rw [if_neg nofun, cycleResult_edge_of_legal i s hlegal hrst]

/-! ### At most one EDGE -/

/-- A cycle has at most one EDGE (30_encoding R76). -/
theorem countP_isEdge_opsOfInputs_le_one (i : Inputs) : (opsOfInputs i).countP Instr.isEdge ≤ 1 := by
  obtain ⟨-, -, -, hedges, -⟩ := (cycleWellFormed_iff _).mp (cycleWellFormed_opsOfInputs i)
  exact hedges

/-! ### Diagnostics -/

/-- A TIMEOUT that raises a diagnostic has sent the state to Idle (43_deadline_guard R181). -/
theorem timeoutOp_state_of_diagValid (s : State) (hquiet : s.out.diagValid = false)
    (hraised : (timeoutOp s).out.diagValid = true) : (timeoutOp s).state = .idle := by
  unfold timeoutOp at hraised ⊢
  split_ifs at hraised ⊢ with hhonoured hforces
  · rw [takeError_eq]
  · exact absurd (hquiet.symm.trans hraised) Bool.false_ne_true
  · exact absurd (hquiet.symm.trans hraised) Bool.false_ne_true

/-- A HIGH edge in Idle requests a deadline and drives no other port (40_edge_fsm R102). -/
theorem edgeHigh_out_of_idle (ts : Micros) (s : State) (hstate : s.state = .idle) :
    (edgeHigh ts s).out = { s.out with timerArm := true, timerDelayMs := s.params.deadlineMs } := by
  rw [edgeHigh_idle ts s hstate, recordEdge_out, edgeIdleHigh, enterWaitForStart_eq]

/-- A LOW edge in Idle drives no port (R103). -/
theorem edgeLow_out_of_idle (ts : Micros) (s : State) (hstate : s.state = .idle) : (edgeLow ts s).out = s.out := by
  rw [edgeLow_idle ts s hstate, recordEdge_out, edgeIdleLow]

/-- Settles O33: the EDGE after a TIMEOUT's diagnostic meets Idle, where neither level raises one; the other operations drive no
diagnostic port. -/
theorem oneDiagnosticPerCycle : Obligations.OneDiagnosticPerCycle := by
  unfold Obligations.OneDiagnosticPerCycle
  refine ⟨fun s t u ts hquiet htimeout hraised hedge => ?_, fun a s t hop hexec => ?_, countP_isEdge_opsOfInputs_le_one⟩
  · obtain rfl : timeoutOp s = t := Host.Outcome.next.inj htimeout
    have hidle := timeoutOp_state_of_diagValid s hquiet hraised
    rw [exec_edgeHigh, exec_edgeLow, Host.Outcome.next.injEq, Host.Outcome.next.injEq] at hedge
    obtain rfl | rfl := hedge
    · rw [edgeHigh_out_of_idle ts _ hidle]
      exact ⟨rfl, rfl, rfl⟩
    · rw [edgeLow_out_of_idle ts _ hidle]
      exact ⟨rfl, rfl, rfl⟩
  · rw [exec_eq, Host.Outcome.next.injEq] at hexec
    obtain rfl := hexec
    obtain rfl | rfl | rfl := hop
    all_goals exact ⟨rfl, rfl, rfl⟩

/-! ### Emissions -/

/-- Settles O34: TAKE clears the flag and TIMEOUT leaves the slot alone, so the writes of the slot are left to the EDGE. -/
theorem oneEmissionPerCycle : Obligations.OneEmissionPerCycle := by
  unfold Obligations.OneEmissionPerCycle
  refine ⟨fun a s t hreset hedge hexec => ?_, countP_isEdge_opsOfInputs_le_one⟩
  rw [exec_eq, Host.Outcome.next.injEq] at hexec
  obtain rfl := hexec
  cases a with
  | reset => exact absurd rfl hreset
  | take => exact ⟨rfl, nofun⟩
  | timeout =>
    obtain ⟨hflag, hpayload, -⟩ := slotWritten_timeoutOp s
    exact ⟨hpayload, hflag.symm.trans⟩
  | edgeHigh | edgeLow => cases hedge
  | nop => exact ⟨rfl, id⟩

/-! ### Timer requests -/

/-- A cell of the state table pulses at most one of the timer requests: Idle is left with an arm and entered with a cancel
(43_deadline_guard R184, R185). -/
theorem CellOutcome.not_arm_and_cancel {dt : Micros} {s u : State} (hcell : CellOutcome dt s u)
    (harm : s.out.timerArm = false) (hcancel : s.out.timerCancel = false) :
    ¬ (u.out.timerArm = true ∧ u.out.timerCancel = true) := by
  cases hcell with
  | start => simp [enterWaitForStart_eq, hcancel]
  | wrongLevel | wrongMark | wrongBit => simp [takeError_eq, harm]
  | finish => simp [enterIdle_eq, harm]
  | lastBit b =>
    obtain ⟨-, -, -, -, harm', -⟩ := completeFrame_registers dt (shiftIn b s)
    simp [harm', harm]
  | ignored | mark | frameSpace | repeatSpace | bit => simp [harm]

/-- The EDGE of a cycle pulses at most one of the timer requests, whatever state it meets. -/
theorem edgePart_not_arm_and_cancel (i : Inputs) (s : State) (harm : s.out.timerArm = false)
    (hcancel : s.out.timerCancel = false) :
    ¬ ((edgePart i s).out.timerArm = true ∧ (edgePart i s).out.timerCancel = true) := by
  cases hlegal : s.state.isLegal with
  | false =>
    rw [edgePart, edgeHigh_unreachable _ s hlegal, edgeLow_unreachable _ s hlegal, ite_self, ite_self, harm]
    exact fun h => Bool.false_ne_true h.1
  | true =>
    obtain ⟨-, heq⟩ | ⟨u, hcell, heq⟩ := edgePart_cases i s hlegal
    · rw [heq, harm]
      exact fun h => Bool.false_ne_true h.1
    · rw [heq, recordEdge_out]
      exact hcell.not_arm_and_cancel harm hcancel

/-- A cycle pulses at most one of the timer requests: before its EDGE it has pulsed none (R225). -/
theorem cycleResult_not_arm_and_cancel (i : Inputs) (s : State) :
    ¬ ((cycleResult i s).out.timerArm = true ∧ (cycleResult i s).out.timerCancel = true) := by
  cases hrst : i.rst with
  | true => rw [cycleResult_reset i s hrst]; exact fun h => Bool.false_ne_true h.1
  | false =>
    obtain ⟨harm, hcancel⟩ := beforeEdge_timerPulses i s
    rw [cycleResult_edge i s hrst, recoverUnreachable_out]
    exact edgePart_not_arm_and_cancel i _ harm hcancel

/-- Settles O35: the pulses of a cycle are those of its EDGE, and no other operation drives either port. -/
theorem neverArmAndCancelInOneCycle : Obligations.NeverArmAndCancelInOneCycle := by
  unfold Obligations.NeverArmAndCancelInOneCycle
  refine ⟨fun i s t hrun => ?_, fun a s t hedge hexec => ?_, countP_isEdge_opsOfInputs_le_one⟩
  · obtain rfl := (runCycle_eq_next_iff i s t).mp hrun
    exact cycleResult_not_arm_and_cancel i s
  · rw [exec_eq, Host.Outcome.next.injEq] at hexec
    obtain rfl := hexec
    cases a with
    | reset | take | nop => exact ⟨rfl, rfl⟩
    | timeout => exact timeoutOp_timerPulses s
    | edgeHigh | edgeLow => cases hedge

end Sys2Proof.Machine

/-! The errors of a cycle (60_exceptions R240 to R244): what the diagnostic port reports, the state each error leaves, and that none
touches the result slot. Then the record the host forwards (R262). -/

namespace Sys2Proof.Machine

open Sys2Proof

/-! ### The diagnostic port -/

/-- The three `diag_*` ports: whether an error is reported, its code and its interval (R243). -/
def diagPorts (o : Outputs) : Bool × BitVec 3 × Micros := (o.diagValid, o.diagCode, o.diagDelta)

theorem diagPorts_eq_iff (o : Outputs) (valid : Bool) (code : BitVec 3) (dt : Micros) :
    diagPorts o = (valid, code, dt) ↔ o.diagValid = valid ∧ o.diagCode = code ∧ o.diagDelta = dt := by
  rw [diagPorts, Prod.mk.injEq, Prod.mk.injEq]

/-- The state each error leaves: a complete frame goes to WaitEnd even where its checksum fails (R241; 41_frame_assembly R136). -/
def Diag.leaves : Diag → DecoderState
  | .invalidStartLevel | .invalidStartTiming | .invalidBitTiming | .startTimeout => .idle
  | .checksumMismatch => .waitEnd

/-- From `s` to `u` the error `d` of interval `dt` is reported, and the result slot and the `take_*` ports stay as they are
(R242, R244). -/
structure Raises (d : Diag) (dt : Micros) (s u : State) : Prop where
  ports : diagPorts u.out = (true, d.code, dt)
  slot : SlotWritten none s u

/-- What leaves the slot alone can precede a report. -/
theorem Raises.after {d : Diag} {dt : Micros} {r s u : State} (hkeep : SlotWritten none r s) (h : Raises d dt s u) :
    Raises d dt r u :=
  ⟨h.ports, hkeep.none_trans h.slot⟩

/-- What leaves the slot and the diagnostic port alone can follow a report. -/
theorem Raises.keep {d : Diag} {dt : Micros} {s u v : State} (h : Raises d dt s u)
    (hports : diagPorts v.out = diagPorts u.out) (hkeep : SlotWritten none u v) : Raises d dt s v :=
  ⟨hports.trans h.ports, h.slot.trans_none hkeep⟩

theorem raises_takeError (d : Diag) (dt : Micros) (s : State) : Raises d dt s (takeError d dt s) where
  ports := by rw [takeError_eq]; rfl
  slot := slotWritten_takeError d dt s

/-! ### The errors of each operation -/

/-- TIMEOUT reports nothing, or StartTimeout with interval 0, which leaves Idle (43_deadline_guard R181). -/
theorem timeoutOp_diag_cases (s : State) :
    diagPorts (timeoutOp s).out = diagPorts s.out ∨
    (Raises .startTimeout 0 s (timeoutOp s) ∧ (timeoutOp s).state = .idle) := by
  unfold timeoutOp
  split_ifs
  · exact .inr ⟨(raises_takeError .startTimeout 0 _).after (slotWritten_consumeDeadline s), by rw [takeError_eq]⟩
  · exact .inl rfl
  · exact .inl rfl

/-- Before its EDGE a cycle has reported nothing, or StartTimeout, and then the EDGE meets Idle. -/
theorem beforeEdge_diag_cases (i : Inputs) (s : State) :
    diagPorts (beforeEdge i s).out = (false, 0, 0) ∨
    (Raises .startTimeout 0 (takePart i (beginCycle s)) (beforeEdge i s) ∧ (beforeEdge i s).state = .idle) := by
  have hquiet : diagPorts (takePart i (beginCycle s)).out = (false, 0, 0) := by
    unfold takePart
    split_ifs
    · rfl
    · rfl
  unfold beforeEdge timeoutPart
  split_ifs
  · exact (timeoutOp_diag_cases _).imp_left (·.trans hquiet)
  · exact .inl hquiet

/-- A cell of the state table reports nothing, or one of the four errors of an EDGE with the interval of its edge (R241, R244). -/
theorem CellOutcome.diag_cases {dt : Micros} {s u : State} (hcell : CellOutcome dt s u) :
    diagPorts u.out = diagPorts s.out ∨ ∃ d, d ≠ .startTimeout ∧ Raises d dt s u ∧ u.state = d.leaves := by
  have hentersIdle (d : Diag) : (takeError d dt s).state = .idle := by rw [takeError_eq]
  cases hcell with
  | ignored | start | mark | frameSpace | repeatSpace | bit => exact .inl rfl
  | finish => rw [enterIdle_eq]; exact .inl rfl
  | wrongLevel => exact .inr ⟨.invalidStartLevel, nofun, raises_takeError _ dt s, hentersIdle _⟩
  | wrongMark => exact .inr ⟨.invalidStartTiming, nofun, raises_takeError _ dt s, hentersIdle _⟩
  | wrongBit => exact .inr ⟨.invalidBitTiming, nofun, raises_takeError _ dt s, hentersIdle _⟩
  | lastBit b =>
    cases hvalid : frameValid (shiftIn b s).shiftRegister with
    | true => rw [completeFrame_valid dt _ hvalid]; exact .inl rfl
    | false =>
      rw [completeFrame_invalid dt _ hvalid]
      exact .inr ⟨.checksumMismatch, nofun, ⟨rfl, rfl, rfl, rfl⟩, rfl⟩

/-- The EDGE of a cycle in a legal state reports nothing, or one of its four errors. -/
theorem edgePart_diag_cases (i : Inputs) (s : State) (hlegal : s.state.isLegal = true) :
    diagPorts (edgePart i s).out = diagPorts s.out ∨
    ∃ d, d ≠ .startTimeout ∧ Raises d (delta s i.edgeTs) s (edgePart i s) ∧ (edgePart i s).state = d.leaves := by
  obtain ⟨-, heq⟩ | ⟨u, hcell, heq⟩ := edgePart_cases i s hlegal
  · rw [heq]; exact .inl rfl
  · rw [heq]
    refine hcell.diag_cases.imp_right fun ⟨d, hedge, hraises, hstate⟩ => ?_
    exact ⟨d, hedge, hraises.keep rfl (slotWritten_recordEdge i.edgeTs u), hstate⟩

/-- In Idle an EDGE reports nothing and emits nothing; a HIGH one starts (40_edge_fsm R102, R103). -/
theorem edgePart_of_idle (i : Inputs) (s : State) (hidle : s.state = .idle) :
    diagPorts (edgePart i s).out = diagPorts s.out ∧ SlotWritten none s (edgePart i s) ∧
    ((edgePart i s).state = .idle ∨
      ((edgePart i s).state = .waitForStart ∧ i.edgeValid = true ∧ i.edgeLevel = true)) := by
  unfold edgePart
  split_ifs with hvalid hlevel
  · rw [edgeHigh_idle _ s hidle]
    exact ⟨rfl, ⟨rfl, rfl, rfl⟩, .inr ⟨rfl, hvalid, hlevel⟩⟩
  · rw [edgeLow_idle _ s hidle]
    exact ⟨rfl, slotWritten_recordEdge _ s, .inl hidle⟩
  · exact ⟨rfl, .refl s, .inl hidle⟩

/-! ### The errors of a cycle -/

/-- What a cycle's diagnostic port reports: nothing; an error of its EDGE; or StartTimeout, after which a HIGH edge of the same
cycle may start again (R241, R244; 45_control R222). -/
theorem cycleResult_diag_cases (i : Inputs) (s : State) :
    diagPorts (cycleResult i s).out = (false, 0, 0) ∨
    (∃ d, d ≠ .startTimeout ∧
      Raises d (i.edgeTs - s.lastEdgeTimestamp) (takePart i (beginCycle s)) (cycleResult i s) ∧
      (cycleResult i s).state = d.leaves) ∨
    (Raises .startTimeout 0 (takePart i (beginCycle s)) (cycleResult i s) ∧
      ((cycleResult i s).state = .idle ∨
        ((cycleResult i s).state = .waitForStart ∧ i.edgeValid = true ∧ i.edgeLevel = true))) := by
  cases hrst : i.rst with
  | true => rw [cycleResult_reset i s hrst]; exact .inl rfl
  | false =>
    cases hlegal : s.state.isLegal with
    | false =>
      rw [cycleResult_unreachable i s hlegal hrst, recoverUnreachable_out, takePart]
      split_ifs
      · exact .inl rfl
      · exact .inl rfl
    | true =>
      rw [cycleResult_edge_of_legal i s hlegal hrst]
      obtain hquiet | ⟨htimeout, hidle⟩ := beforeEdge_diag_cases i s
      · have hdelta : delta (beforeEdge i s) i.edgeTs = i.edgeTs - s.lastEdgeTimestamp := by
          rw [delta, beforeEdge_lastEdgeTimestamp]
        obtain hports | ⟨d, hedge, hraises, hstate⟩ := edgePart_diag_cases i _ (beforeEdge_isLegal i s hlegal)
        · exact .inl (hports.trans hquiet)
        · exact .inr (.inl ⟨d, hedge, (hdelta ▸ hraises).after (slotWritten_timeoutPart i _), hstate⟩)
      · obtain ⟨hports, hslot, hstate⟩ := edgePart_of_idle i _ hidle
        exact .inr (.inr ⟨htimeout.keep hports hslot, hstate⟩)

/-- A cycle that reports an error writes the slot with its TAKE only (R242). -/
theorem slotWritten_of_diagValid (i : Inputs) (s : State) (hreported : (cycleResult i s).out.diagValid = true) :
    SlotWritten none (takePart i (beginCycle s)) (cycleResult i s) := by
  obtain hports | ⟨_, -, hraises, -⟩ | ⟨hraises, -⟩ := cycleResult_diag_cases i s
  · obtain ⟨hquiet, -, -⟩ := (diagPorts_eq_iff _ _ _ _).mp hports
    exact absurd (hquiet.symm.trans hreported) Bool.false_ne_true
  · exact hraises.slot
  · exact hraises.slot

/-- TAKE at the start of a cycle clears the flag, keeps the payload and shows both (44_consumer_read R200, R202). -/
theorem takePart_beginCycle_slot (i : Inputs) (s : State) :
    (takePart i (beginCycle s)).frame = s.frame ∧
    (takePart i (beginCycle s)).hasUnreadFrame = (!i.takeReq && s.hasUnreadFrame) ∧
    takePorts (takePart i (beginCycle s)).out = (i.takeReq && s.hasUnreadFrame, s.frame) := by
  unfold takePart
  cases i.takeReq with
  | true => exact ⟨rfl, rfl, rfl⟩
  | false => exact ⟨rfl, rfl, rfl⟩

/-- Settles O28: an error is reported by a cycle that emits nothing, so of the slot's writes only TAKE's is left. -/
theorem errorsNeverTouchTheResultSlot : Obligations.ErrorsNeverTouchTheResultSlot := by
  unfold Obligations.ErrorsNeverTouchTheResultSlot
  intro i s t hrun hreported
  obtain rfl := (runCycle_eq_next_iff i s t).mp hrun
  have hslot := slotWritten_of_diagValid i s hreported
  obtain ⟨hframe, hflag, hports⟩ := takePart_beginCycle_slot i s
  obtain ⟨haddress, hcommand, hrepeated, hvalid⟩ := (takePorts_eq_pair_iff _ _ _).mp (hslot.ports.trans hports)
  exact ⟨hslot.payload.trans hframe, hslot.flag.trans hflag, hvalid, haddress, hcommand, hrepeated,
    (keepsSurroundings_cycleResult i s).framePending⟩

/-- Settles O36: the three cases of a cycle's diagnostic port, each with its code, its interval and the state it leaves. -/
theorem diagnosticsReportCodeAndInterval : Obligations.DiagnosticsReportCodeAndInterval := by
  unfold Obligations.DiagnosticsReportCodeAndInterval
  intro i s t hrun
  obtain rfl := (runCycle_eq_next_iff i s t).mp hrun
  obtain hports | ⟨d, hedge, hraises, hstate⟩ | ⟨hraises, hstate⟩ := cycleResult_diag_cases i s
  · obtain ⟨hvalid, hcode, hdelta⟩ := (diagPorts_eq_iff _ _ _ _).mp hports
    simp [hvalid, hcode, hdelta]
  · obtain ⟨hvalid, hcode, hdelta⟩ := (diagPorts_eq_iff _ _ _ _).mp hraises.ports
    rw [hvalid, hcode, hdelta, hstate]
    cases d with
    | startTimeout => exact absurd rfl hedge
    | invalidStartLevel | invalidStartTiming | invalidBitTiming | checksumMismatch => simp [Diag.code, Diag.leaves]
  · obtain ⟨hvalid, hcode, hdelta⟩ := (diagPorts_eq_iff _ _ _ _).mp hraises.ports
    rw [hvalid, hcode, hdelta]
    simpa [Diag.code] using hstate

/-! ### Steps -/

/-- Sampling the inputs leaves the parameters alone (10_state R42). -/
theorem afterSampling_params (s : State) : (afterSampling s).params = s.params := by
  unfold afterSampling
  split
  · rfl
  · rfl

/-- Settles O50: a step is sampling and a cycle; neither stops or writes the parameters. -/
theorem everyStepAnswersANextState : Obligations.EveryStepAnswersANextState := by
  unfold Obligations.EveryStepAnswersANextState
  intro s
  exact ⟨_, step_eq s, (keepsSurroundings_cycleResult _ _).params.trans (afterSampling_params s)⟩

/-! ### The host record -/

/-- The record of a taken frame. -/
theorem hostRecord_of_takeValid {o : Outputs} (htaken : o.takeValid = true) :
    hostRecord o = some [0x00, o.takeAddress, o.takeCommand, if o.takeRepeated then 0x01 else 0x00] :=
  if_pos htaken

/-- Settles O58: the record is there exactly with `take_valid`, and its last byte is `take_repeated` as a number. -/
theorem hostRecordOfATakenFrame : Obligations.HostRecordOfATakenFrame := by
  unfold Obligations.HostRecordOfATakenFrame
  refine fun o => ⟨fun htaken hrepeated => ?_, fun htaken hrepeated => ?_, fun hnone => ?_⟩
  · rw [hostRecord_of_takeValid htaken, hrepeated, if_pos rfl]
  · rw [hostRecord_of_takeValid htaken, hrepeated, if_neg Bool.false_ne_true]
  · rw [hostRecord, hnone, if_neg Bool.false_ne_true]

end Sys2Proof.Machine
